-- ==== Sys2Proof/Word.lean ====
section
/-! DEFINITION. The word types of the codec block (`00_scope.md` R9). -/

namespace Sys2Proof

/-- A byte, `u8` (R9). -/
abbrev Byte := BitVec 8

/-- A halfword, `u16` (R9). -/
abbrev Half := BitVec 16

/-- A word, `u32` (R9): the width of an operation word and of every control register. -/
abbrev Word := BitVec 32

/-- The 64-bit encoding of an IEEE 754 binary64 value, `f64` (R9, R10 `bits64` and `f64of`). -/
abbrev F64 := BitVec 64

/-- One slot entry of CHTAB or ACTTAB (R35): G in bits [3:0], RES in bits [8:4], KIND in bits [10:9].
Bits [15:11] of the 16-bit entry are reserved and read 0 (R49), so they are not held. -/
abbrev SlotEntry := BitVec 11

end Sys2Proof
end

