-- ==== Sys2Proof/Syntax.lean ====
section
/-! DEFINITION. The nine operations of the block (`30_encoding.md` R97), one constructor per row of the opcode
table. Operands are unsigned numbers (R101); the fields they must fit are checked by `Instr.WellFormed`. -/

namespace Sys2Proof

/-- An operation with its operand fields. -/
inductive Instr where
  /-- CK.ENCODE L, X (Format K, R91): X is the frame class, true for an extended frame. -/
  | ckEncode (l : Nat) (x : Bool)
  /-- CK.DECODE L, X, K (Format K, R91): K is the number of echo bytes to compare. -/
  | ckDecode (l : Nat) (x : Bool) (k : Nat)
  /-- ST.CONFIGURE (Format Z, R92). -/
  | stConfigure
  /-- ST.START (Format Z, R92). -/
  | stStart
  /-- ST.NEXTBLK M, F (Format N, R93): M bytes were read, F asks for a partial flush. -/
  | stNextblk (m : Nat) (f : Bool)
  /-- ST.STOP (Format Z, R92). -/
  | stStop
  /-- CV.AIN RAW, G, RES (Format A, R94). -/
  | cvAin (raw g res : Nat)
  /-- CV.TEMP RAW (Format T, R95). -/
  | cvTemp (raw : Nat)
  /-- CV.DAC D (Format D, R96). -/
  | cvDac (d : Nat)
deriving DecidableEq, Repr

end Sys2Proof
end

