-- ==== Sys2Proof/Config.lean ====
section
/-! DEFINITION. The implementation parameters of `00_scope.md` R7, and the free values: what the spec
leaves open. A parameter is a field of `Config`; a free value is an opaque constant. -/

namespace Sys2Proof

/-- CK8_REDUCE (R7, R120): how the checksum-8 sum is brought to one byte. -/
inductive Ck8Reduce where
  | fold     -- FOLD, the default: end-around carry, folded twice
  | mod256   -- MOD256, the alternative
deriving DecidableEq, Repr

/-- WINDOW_SIZE (R7, R60): the layout of R61 is fixed (R77), so this is no free parameter (DEDUCED, log 8). -/
def windowSize : Nat := 0x2000

/-- The length of the CALRAM image, offsets 0x100 to 0x327 (R40). -/
abbrev calramSize : Nat := 0x228

/-- EXT_MIN_LEN (R7): derived from the byte 0..5 header of an extended frame (R104). -/
def extMinLen : Nat := 6

/-- MAX_ECHO (R7): frame bytes 1 to 3 identify the command, and the K field holds at most 3 (R91). -/
def maxEcho : Nat := 3

/-- The named parameters of R7 that a model takes as arguments. `Config.legal` of WellFormed.lean is the
constraint list R8. The parameters not held here are fixed or derived: WINDOW_SIZE, EXT_MIN_LEN and MAX_ECHO
(above), N_GAIN (16, the 4-bit code G) and PKT_NET (`Config.pktNet`). -/
structure Config where
  /-- BASE: bus address of window offset 0 (R60). OPEN in the spec. -/
  base : Nat
  /-- MAX_FRAME: largest frame, bytes. -/
  maxFrame : Nat
  /-- SHORT_MIN_LEN: smallest short frame. -/
  shortMinLen : Nat
  /-- CK8_REDUCE (R120). -/
  ck8Reduce : Ck8Reduce
  /-- PKT_LOCAL: packet size on the local transport. -/
  pktLocal : Nat
  /-- NET_TRAILER: extra trailer bytes on the network transport. -/
  netTrailer : Nat
  /-- OFF_CTR: packet byte that holds the packet counter. -/
  offCtr : Nat
  /-- OFF_ERR: packet byte that holds the error code. -/
  offErr : Nat
  /-- OFF_SAMPLES: first sample byte of a packet. -/
  offSamples : Nat
  /-- SPP: samples per packet. -/
  spp : Nat
  /-- OFF_EMPTY: packet byte that holds the empty marker. -/
  offEmpty : Nat
  /-- EMPTY_VAL: the empty-marker value of a garbage packet. -/
  emptyVal : Byte
  /-- PPR_LO: packets per read below the threshold. -/
  pprLo : Nat
  /-- PPR_HI: packets per read at or above the threshold. -/
  pprHi : Nat
  /-- RATE_THRESHOLD, in hertz. -/
  rateThreshold : Nat
  /-- HIRES_THRESHOLD: the high-resolution pair is used above it. -/
  hiresThreshold : Nat
  /-- MAX_CH: channel slots. -/
  maxCh : Nat
  /-- N_DAC: DAC channels. -/
  nDac : Nat
  /-- DAC_BITS: width of a DAC code. -/
  dacBits : Nat
  /-- INBUF_SIZE: bytes of the input window. -/
  inbufSize : Nat
  /-- RBUF_CAP: capacity of the reassembly buffer, bytes. -/
  rbufCap : Nat
  /-- RAWOUT_SIZE: bytes of the raw-output window. -/
  rawoutSize : Nat
  /-- OUTVAL_N: f64 output slots. -/
  outvalN : Nat
  /-- NOMINAL: reset contents of CALRAM, offsets 0x100 to 0x327 (R40). OPEN in the spec. -/
  nominal : Vector Byte calramSize
  /-- MAX_WAIT: the host's wait before it asks for a partial flush. OPEN in the spec, kept by the host, and
  read by no rule of the block, which measures no time (R200, R240). -/
  maxWait : Nat
deriving DecidableEq, Repr

/-- PKT_NET = PKT_LOCAL + NET_TRAILER (R7, R107). -/
def Config.pktNet (c : Config) : Nat := c.pktLocal + c.netTrailer

/-- FREE VALUE: byte `i` of NOMINAL, the nominal calibration image that the source does not give (R40;
log 7). -/
opaque Config.openNominal : Nat → Byte

/-- FREE VALUE: the host's MAX_WAIT, which the spec leaves open (R7; log 7). -/
opaque Config.openMaxWait : Nat

/-- FREE VALUE (log 3): what a read of an unwritten byte yields (R52). The first argument numbers the read (the field
`draws` of State, so that every read draws afresh), the second is the byte's window offset. -/
opaque Config.freeByte : Nat → Nat → Byte

/-- FREE VALUE: the conversion of a raw sample by a slot entry of the reserved KIND 3, for which R193 states no
result. CONFIGURE latches no such entry (R181), so no run reaches it. -/
opaque Config.reservedKindValue : Nat → F64

/-- The parameter values of R7's "value" column, which the spec's test vectors and programs use. NOMINAL and
MAX_WAIT stay free. DESIGN CHOICE (log 1): BASE, which R7 leaves open, is 0 here, so that a bus address is a
window offset, as in the spec's vectors. Unsafe only for a claim about this one value: the machine is defined
over every `Config`. -/
def Config.spec : Config where
  base := 0
  maxFrame := 256
  shortMinLen := 2
  ck8Reduce := .fold
  pktLocal := 46
  netTrailer := 2
  offCtr := 10
  offErr := 11
  offSamples := 12
  spp := 16
  offEmpty := 3
  emptyVal := 0x00#8
  pprLo := 4
  pprHi := 8
  rateThreshold := 200
  hiresThreshold := 17
  maxCh := 16
  nDac := 2
  dacBits := 16
  inbufSize := 1024
  rbufCap := 2048
  rawoutSize := 1024
  outvalN := 128
  nominal := Vector.ofFn fun i => Config.openNominal i.val
  maxWait := Config.openMaxWait

end Sys2Proof
end

