-- ==== Sys2Proof/WellFormed.lean ====
section
/-! DEFINITION. The two well-formedness checks of the spec: an operand fits its field (`30_encoding.md` R109, "An
assembler refuses an operand that does not fit its field"), and a configuration satisfies the constraints of
`00_scope.md` R8. -/

namespace Sys2Proof

/-- Every operand fits its field (R91 to R96, R109). -/
def Instr.wellFormed : Instr → Bool
  | .ckEncode l _ => decide (l < 512)
  | .ckDecode l _ k => decide (l < 512) && decide (k < 4)
  | .stConfigure => true
  | .stStart => true
  | .stNextblk m _ => decide (m < 2048)
  | .stStop => true
  | .cvAin raw g res => decide (raw < 65536) && decide (g < 16) && decide (res < 32)
  | .cvTemp raw => decide (raw < 65536)
  | .cvDac d => decide (d < 2)

/-- The instruction is one that an operation word can spell. -/
abbrev Instr.WellFormed (i : Instr) : Prop := i.wellFormed = true

/-- The packet bytes that the block interprets are distinct and lie before the samples (R8). -/
def Config.offsetsLegal (c : Config) : Bool :=
  decide (c.offCtr ≠ c.offErr) && decide (c.offCtr ≠ c.offEmpty) && decide (c.offErr ≠ c.offEmpty) &&
  decide (c.offCtr < c.offSamples) && decide (c.offErr < c.offSamples) && decide (c.offEmpty < c.offSamples)

/-- The sizes of R8. -/
def Config.sizesLegal (c : Config) : Bool :=
  decide (c.offSamples + 2 * c.spp ≤ c.pktLocal) && decide (c.pktLocal ≤ c.pktNet) && decide (c.pktNet ≤ 255) &&
  decide (1 ≤ c.pprLo) && decide (c.pprLo ≤ c.pprHi) &&
  decide (6 ≤ c.maxFrame) && decide (c.maxFrame ≤ 256) &&
  decide (c.pprHi * c.pktLocal ≤ c.inbufSize) && decide (c.inbufSize ≤ 1024) &&
  decide (c.pprHi * c.pktNet ≤ c.rawoutSize) && decide (c.rawoutSize ≤ 1024) &&
  decide (c.pprHi * c.spp ≤ c.outvalN) && decide (c.outvalN ≤ 128) &&
  decide (c.inbufSize + c.pprHi * c.pktNet ≤ c.rbufCap) && decide (c.rbufCap ≤ 4095) &&
  decide (1 ≤ c.maxCh) && decide (c.maxCh ≤ 16) && decide (1 ≤ c.nDac) && decide (c.nDac ≤ 2) &&
  decide (1 ≤ c.dacBits) && decide (c.dacBits ≤ 32)

/-- The constraints of R8, with BASE naturally aligned to the window size (R60). DEDUCED (log 2): PPR_HI fits the
8-bit field of PPR_R (R30; R8 derives its upper bounds from the field widths, and its other lines imply this one
whenever SPP is at least 1), and a short frame has at least a checksum byte and one covered byte (R105, "SHORT_MIN_LEN
= 2 <= L"). Safe: the model refuses a configuration it should not meet. -/
def Config.legal (c : Config) : Bool :=
  decide (c.base % windowSize = 0) && c.offsetsLegal && c.sizesLegal && decide (c.pprHi ≤ 255) &&
  decide (2 ≤ c.shortMinLen)

end Sys2Proof
end

