-- ==== Sys2Proof/Decode.lean ====
section
/-! DEFINITION. The operation word (`30_encoding.md` R90 to R101): the decoder, total on 32-bit words, and the
encoder. -/

namespace Sys2Proof

/-- Why a word is illegal. Either way the operation does only `raise ILLEGAL_OP` (R98, R99). -/
inductive Illegal where
  | reservedOpcode   -- OPC is 0x0 or 0xA to 0xF (R98)
  | reservedBit      -- a legal OPC with a nonzero bit in a "reserved, must be 0" field (R99)
deriving DecidableEq, Repr

/-- What a word spells: exactly one operation of R97, or nothing legal (R100). -/
inductive Decoded where
  | op (i : Instr)
  | illegal (why : Illegal)
deriving DecidableEq, Repr

/-- Bits [hi:lo] of an operation word, read as an unsigned number (R9, R101). -/
def bitField (w : Word) (hi lo : Nat) : Nat := w.toNat / 2 ^ lo % 2 ^ (hi + 1 - lo)

/-- The instruction, when every reserved field is 0 (R99). -/
def unlessReserved (reserved : Nat) (i : Instr) : Decoded :=
  if reserved = 0 then .op i else .illegal .reservedBit

/-- The decoder: OPC alone selects the format (R90), then the format's reserved fields are checked (R99). The legal
range of an operand is the operation's to check, never the decoder's (R101). -/
def decode (w : Word) : Decoded :=
  match bitField w 3 0 with
  | 0x1 => unlessReserved (bitField w 7 5 + bitField w 31 17) (.ckEncode (bitField w 16 8) (bitField w 4 4 == 1))
  | 0x2 => unlessReserved (bitField w 7 7 + bitField w 31 17)
      (.ckDecode (bitField w 16 8) (bitField w 4 4 == 1) (bitField w 6 5))
  | 0x3 => unlessReserved (bitField w 31 4) .stConfigure
  | 0x4 => unlessReserved (bitField w 31 4) .stStart
  | 0x5 => unlessReserved (bitField w 7 5 + bitField w 31 19) (.stNextblk (bitField w 18 8) (bitField w 4 4 == 1))
  | 0x6 => unlessReserved (bitField w 31 4) .stStop
  | 0x7 => unlessReserved (bitField w 15 13) (.cvAin (bitField w 31 16) (bitField w 7 4) (bitField w 12 8))
  | 0x8 => unlessReserved (bitField w 15 4) (.cvTemp (bitField w 31 16))
  | 0x9 => unlessReserved (bitField w 31 5) (.cvDac (bitField w 4 4))
  | _ => .illegal .reservedOpcode

/-- The word of an operation (R109), as a number. -/
def encodeNat : Instr → Nat
  | .ckEncode l x => 0x1 + x.toNat * 2 ^ 4 + l * 2 ^ 8
  | .ckDecode l x k => 0x2 + x.toNat * 2 ^ 4 + k * 2 ^ 5 + l * 2 ^ 8
  | .stConfigure => 0x3
  | .stStart => 0x4
  | .stNextblk m f => 0x5 + f.toNat * 2 ^ 4 + m * 2 ^ 8
  | .stStop => 0x6
  | .cvAin raw g res => 0x7 + g * 2 ^ 4 + res * 2 ^ 8 + raw * 2 ^ 16
  | .cvTemp raw => 0x8 + raw * 2 ^ 16
  | .cvDac d => 0x9 + d * 2 ^ 4

/-- The operation word of a well-formed instruction (R109). -/
def encode (i : Instr) : Word := BitVec.ofNat 32 (encodeNat i)

/-- The assembler of R109: it refuses an operand that does not fit its field. -/
def assemble (i : Instr) : Option Word := if i.wellFormed then some (encode i) else none

/-- The instruction the decoder reads from a word whose bits, as spec/opcode_table.json numbers them, are `w`; the
bits above `nbits` are 0. Every operation word is one 32-bit word (R90). -/
def decodeTableWord (nbits w : Nat) : Option Instr :=
  match decode (BitVec.ofNat 32 (w % 2 ^ nbits)) with
  | .op i => some i
  | .illegal _ => none

end Sys2Proof
end

