-- ==== Sys2Proof/Machine/State.lean ====
section
/-! DEFINITION. The state of the block (`10_state.md` R20), its reset value (R53, R260), and the reasons a step can
stop. -/

namespace Sys2Proof.Machine

/-- STATUS.CODE (R24, R230). Codes 10 to 15 are never produced, so they are not representable. -/
inductive Code where
  | ok               -- 0: the operation completed and wrote its results
  | pending          -- 1: no usable packet, or no full batch and no flush (R197)
  | checksumError    -- 2: a recomputed checksum differs from the stored one (R125)
  | echoMismatch     -- 3: a compared identifying byte differs from the expected echo (R125)
  | lengthMismatch   -- 4: the received length differs from the expected one (R125)
  | stateError       -- 5: the operation is not valid in the current STATE (R180)
  | configError      -- 6: the channel configuration is refused (R184)
  | badOperand       -- 7: an operand is outside its legal range
  | illegalOp        -- 8: reserved OPC or a nonzero reserved bit (R98, R99)
  | overflow         -- 9: RBUF would exceed RBUF_CAP (R199)
deriving DecidableEq, Repr

/-- STATE (R25). The value 3 is never held, so it is not representable. -/
inductive StreamState where
  | idle
  | configured
  | streaming
deriving DecidableEq, Repr

/-- What the outside world does to the block, one event at a time: a host access to the window (R66), or a reset by
the platform (R260). An access names its width in bytes and its bus address. -/
inductive BusEvent where
  | read (n addr : Nat)
  | write (n addr : Nat) (v : Word)
  | reset
deriving DecidableEq, Repr

/-- How the block answered the last access. -/
inductive Reply where
  | none               -- no access since reset
  | ack                -- a performed write
  | data (v : Word)    -- a performed read, zero-extended
  | busError           -- the access broke R66 and was not performed (R232)
deriving DecidableEq, Repr

/-- The bytes of FBUF, INBUF, RAWOUT and OUTVAL, by window offset: the written ones only (R52). -/
abbrev Memory := List Host.Cell

/-- What an unlisted offset of the byte windows holds: nothing. It is unwritten (R52), and a read of it is a free
draw (`Config.freeByte`). -/
def unlistedByte (_off : Nat) : Option Byte := none

/-- Strictly rising offsets, each at least `lo`. -/
def risingFrom : Nat → Memory → Bool
  | _, [] => true
  | lo, (a, _) :: m => decide (lo ≤ a) && risingFrom (a + 1) m

/-- The canonical form of memory: offsets strictly rise, and no entry equals what an unlisted offset reads as (R52:
an unlisted offset is unwritten, and every entry is written). -/
def memoryWf (m : Memory) : Bool := risingFrom 0 m && m.all fun c => decide (unlistedByte c.1 ≠ some c.2)

/-- The state of the block (R20), the fields that operations write most often first. Four fields are the model's own:
`draws`, the counter behind the free values of R52; `cfg`, the configuration of R7, which nothing changes; `bus`, the
bus events still to come; and `reply`, the answer to the last access. RLEN_R and SLOT_R show `rbuf` and `slot` (R32, R33), and STATUS shows `code`, `stream` and
`trunc` (R24), so they have no field of their own. -/
@[ext]
structure State where
  /-- STATUS.CODE (R24). -/
  code : Code
  /-- The model's own: the number of reads drawn so far (R52). -/
  draws : Nat
  /-- RES0 (R21). -/
  res0 : Word
  /-- RES1 (R21). -/
  res1 : Word
  /-- RES2 (R21). -/
  res2 : Word
  /-- RES3 (R21). -/
  res3 : Word
  /-- FBUF, INBUF, RAWOUT and OUTVAL (R41 to R44, R52). -/
  mem : Memory
  /-- STATUS.TRUNC (R26). -/
  trunc : Bool
  /-- SLOT (R46). -/
  slot : BitVec 4
  /-- RBUF (R45), oldest byte first. -/
  rbuf : List Byte
  /-- STATUS.STATE (R24, R25). -/
  stream : StreamState
  /-- OP (R23). -/
  op : Word
  /-- ARG0 (R21). -/
  arg0 : Word
  /-- ARG1 (R21). -/
  arg1 : Word
  /-- SCFG[10:0] (R27); the bits above are reserved and read 0. -/
  scfg : BitVec 11
  /-- RATE (R28). -/
  rate : Word
  /-- CALCFG.HIRES_SUP (R29); the bits above are reserved and read 0. -/
  hiresSup : Bool
  /-- CHTAB (R35). -/
  chtab : Vector SlotEntry 16
  /-- CALRAM (R38): byte `i` is at window offset 0x100 + `i`. -/
  calram : Vector Byte calramSize
  /-- ATR (R37): true for NET. -/
  atr : Bool
  /-- ANCH (R37). -/
  anch : BitVec 5
  /-- ACTTAB (R37). -/
  acttab : Vector SlotEntry 16
  /-- PPR_R[7:0] (R30): packets per read, latched by CONFIGURE. -/
  pprR : Byte
  /-- PKT_R[7:0] (R31): packet size, latched by CONFIGURE. -/
  pktR : Byte
  /-- The implementation parameters (R7). -/
  cfg : Config
  /-- The model's own: the bus events that have not reached the block yet, in order (R70). -/
  bus : List BusEvent
  /-- The model's own: the answer to the last access. -/
  reply : Reply
deriving DecidableEq, Repr

/-- The block never stops: a condition that an operation detects is a status (R230), and a refused access is answered
with a bus error and changes no state (R232), after which the block takes the next access. So this type has no
constructor; the block's only fault, the bus error, is `Reply.busError` (DEDUCED, log 9; safe). -/
inductive Fault : Type
deriving DecidableEq, Repr

/-- Why the model does not run. -/
inductive Refusal where
  /-- Raised by `exec` for an operation that has no meaning yet (none is left). Safe: nothing is claimed of it. -/
  | notModelled (mnemonic : String)
  /-- Raised by `step` when the configuration breaks a constraint of R8 ("A model rejects a configuration that breaks
  one"). Safe: nothing is claimed of such a block. -/
  | illegalConfig
deriving DecidableEq, Repr

/-- The outcome of an operation or of a step. -/
abbrev Result := Host.Outcome State Fault Refusal

/-- Every piece of state at the value of R53, for the configuration `c`. The draw counter and the bus are the
model's own: DESIGN CHOICE (log 4): no read drawn yet, no event pending and none answered. Unsafe only for a claim
about the counter's value. -/
def State.resetOf (c : Config) : State where
  code := .ok
  draws := 0
  res0 := 0
  res1 := 0
  res2 := 0
  res3 := 0
  mem := []
  trunc := false
  slot := 0
  rbuf := []
  stream := .idle
  op := 0
  arg0 := 0
  arg1 := 0
  scfg := 0
  rate := 0
  hiresSup := false
  chtab := Vector.replicate 16 0
  calram := c.nominal
  atr := false
  anch := 0
  acttab := Vector.replicate 16 0
  pprR := 0
  pktR := 0
  cfg := c
  bus := []
  reply := .none

/-- The machine right after reset (R53, R260), with the parameter values of R7. -/
def State.reset : State := State.resetOf Config.spec

end Sys2Proof.Machine
end

