-- ==== Sys2Proof/Machine/Flags.lean ====
section
/-! DEFINITION. The block's flags: STATUS and its fields (`10_state.md` R24 to R26, R48). -/

namespace Sys2Proof.Machine

/-- The number of a status code (R230). -/
def Code.number : Code → Nat
  | .ok => 0
  | .pending => 1
  | .checksumError => 2
  | .echoMismatch => 3
  | .lengthMismatch => 4
  | .stateError => 5
  | .configError => 6
  | .badOperand => 7
  | .illegalOp => 8
  | .overflow => 9

/-- The encoding of STATE (R25). -/
def StreamState.number : StreamState → Nat
  | .idle => 0
  | .configured => 1
  | .streaming => 2

/-- STATUS as the host reads it (R24): CODE in [3:0], STATE in [5:4], TRUNC in [6], the rest 0. -/
def statusWord (s : State) : Word :=
  BitVec.ofNat 32 (s.code.number + 16 * s.stream.number + 64 * s.trunc.toNat)

/-- STATUS.CODE, and nothing else, becomes `c`. -/
def State.setCode (s : State) (c : Code) : State := { s with code := c }

/-- STATUS.STATE, and nothing else, becomes `st`. -/
def State.setStream (s : State) (st : StreamState) : State := { s with stream := st }

/-- STATUS.TRUNC, and nothing else, becomes `b`. -/
def State.setTrunc (s : State) (b : Bool) : State := { s with trunc := b }

end Sys2Proof.Machine
end

