-- ==== Sys2Proof/Machine/Operands.lean ====
section
/-! DEFINITION. The operands an operation takes from registers and tables: the fields of SCFG and of a slot entry
(`10_state.md` R27, R35), the register operands of CK.DECODE and CV.DAC (`30_encoding.md` R102), and the addresses
of the calibration constants (`10_state.md` R38). -/

namespace Sys2Proof.Machine

/-- SCFG.TR, bit [0]: true for NET (R27). -/
def scfgTr (w : BitVec 11) : Bool := w.getLsbD 0

/-- SCFG.NCH, bits [5:1] (R27). -/
def scfgNch (w : BitVec 11) : BitVec 5 := w.extractLsb' 1 5

/-- SCFG.NOPT, bits [10:6] (R27). -/
def scfgNopt (w : BitVec 11) : BitVec 5 := w.extractLsb' 6 5

/-- G of a slot entry, bits [3:0] (R35). -/
def entryGain (e : SlotEntry) : Nat := (e.extractLsb' 0 4).toNat

/-- RES of a slot entry, bits [8:4] (R35). -/
def entryRes (e : SlotEntry) : Nat := (e.extractLsb' 4 5).toNat

/-- KIND of a slot entry, bits [10:9]: 0 ANALOG, 1 RAW, 2 TEMP, 3 reserved (R35). -/
def entryKind (e : SlotEntry) : Nat := (e.extractLsb' 9 2).toNat

/-- The expected echo byte E_i, 1 <= i <= 3 (R102): byte i-1 of ARG0. -/
def echoByte (arg0 : Word) (i : Nat) : Byte := arg0.extractLsb' (8 * (i - 1)) 8

/-- The received length N of CK.DECODE: ARG1[15:0] (R102). -/
def receivedLen (arg1 : Word) : Nat := (arg1.extractLsb' 0 16).toNat

/-- The voltage of CV.DAC: the f64 in ARG1 (high word) and ARG0 (low word) (R102). -/
def dacVolts (s : State) : F64 := s.arg1 ++ s.arg0

/-- The window offset of AIN_SLOPE[set][g] (R38). -/
def ainSlopeAt (set g : Nat) : Nat := 0x100 + 0x100 * set + 16 * g

/-- The window offset of AIN_OFFSET[set][g] (R38). -/
def ainOffsetAt (set g : Nat) : Nat := 0x108 + 0x100 * set + 16 * g

/-- The window offset of DAC_SLOPE[d] (R38). -/
def dacSlopeAt (d : Nat) : Nat := 0x300 + 16 * d

/-- The window offset of DAC_OFFSET[d] (R38). -/
def dacOffsetAt (d : Nat) : Nat := 0x308 + 16 * d

/-- The window offset of TEMP_SLOPE (R38). -/
def tempSlopeAt : Nat := 0x320

end Sys2Proof.Machine
end

