-- ==== Sys2Proof/Machine/Ops.lean ====
section
/-! DEFINITION. The named operations over registers and memory: byte order, the byte windows, the calibration RAM,
the window as the host sees it, and how an operation ends. -/

namespace Sys2Proof.Machine

/-! ## How an operation ends (R10) -/

/-- `raise S` (R10, R12): the operation ends at once with STATUS.CODE = S and no other change. It is all that "taking
an exception" is on this block: no state is saved and no control is transferred (R235), so there is no return. -/
def raise (c : Code) (s : State) : Result := .next (s.setCode c)

/-- `finish S` (R10): the operation ends normally with STATUS.CODE = S. -/
def finish (c : Code) (s : State) : Result := .next (s.setCode c)

/-! ## Byte order (R63) -/

/-- Bytes assembled little-endian: the first is the least significant (R10, R63). -/
def leNat : List Byte → Nat
  | [] => 0
  | b :: bs => b.toNat + 256 * leNat bs

/-- The `n` low bytes of `v`, little-endian (R10, R63). -/
def leBytes : Nat → Nat → List Byte
  | 0, _ => []
  | n + 1, v => BitVec.ofNat 8 v :: leBytes n (v / 256)

/-- `LE16(s, i)` (R11). -/
def le16 (bs : List Byte) (i : Nat) : Nat := (bs.getD i 0).toNat + 256 * (bs.getD (i + 1) 0).toNat

/-- The natural-number sum of a byte sequence (R11). -/
def byteSum (bs : List Byte) : Nat := (bs.map BitVec.toNat).sum

/-! ## The byte windows -/

/-- The byte stored at an offset, if one was written. -/
def memoryGet : Memory → Nat → Option Byte
  | [], a => unlistedByte a
  | (x, b) :: m, a => if x = a then some b else memoryGet m a

/-- `bs` as memory cells, at `a` and the offsets after it. -/
def cellsAt : Nat → List Byte → Memory
  | _, [] => []
  | a, b :: bs => (a, b) :: cellsAt (a + 1) bs

/-- Store `bs` at `a` and the offsets after it, keeping the canonical form. -/
def memoryStore (m : Memory) (a : Nat) (bs : List Byte) : Memory :=
  m.filter (fun c => decide (c.1 < a)) ++ cellsAt a bs ++ m.filter (fun c => decide (a + bs.length ≤ c.1))

/-- FBUF's window offset (R41). -/
def fbufBase : Nat := 0x400
/-- INBUF's window offset (R42). -/
def inbufBase : Nat := 0x800
/-- RAWOUT's window offset (R43). -/
def rawoutBase : Nat := 0xC00
/-- OUTVAL's window offset (R44). -/
def outvalBase : Nat := 0x1000

/-- The memory, and nothing else, becomes `m`. -/
def State.setMem (s : State) (m : Memory) : State := { s with mem := m }

/-- Bytes stored in the byte windows. -/
def State.store (s : State) (a : Nat) (bs : List Byte) : State := s.setMem (memoryStore s.mem a bs)

/-- `n` reads have been drawn. -/
def State.drawn (s : State) (n : Nat) : State := { s with draws := s.draws + n }

/-- What read number `draw` of a window byte gives: the byte if it was written, a free value if not (R52). -/
def drawByte (s : State) (draw off : Nat) : Byte := (memoryGet s.mem off).getD (Config.freeByte draw off)

/-- Bytes `a` to `a + n - 1` of the byte windows, by read number `draw`. -/
def drawBytes (s : State) (draw a n : Nat) : List Byte := (List.range n).map fun i => drawByte s draw (a + i)

/-- FBUF[i] (R10, R41). -/
def fbufByte (s : State) (draw i : Nat) : Byte := drawByte s draw (fbufBase + i)

/-- FBUF[i] is written (R41). -/
def State.putFbuf (s : State) (i : Nat) (b : Byte) : State := s.store (fbufBase + i) [b]

/-- INBUF[0..n-1] (R10, R42). -/
def inbufBytes (s : State) (draw n : Nat) : List Byte := drawBytes s draw inbufBase n

/-! ## Results (R21) -/

/-- RES0, and nothing else, is written. -/
def State.setRes0 (s : State) (v : Word) : State := { s with res0 := v }
/-- RES0 and RES1, and nothing else, are written. -/
def State.setRes01 (s : State) (v w : Word) : State := { s with res0 := v, res1 := w }
/-- RES0 to RES3, and nothing else, are written. -/
def State.setResults (s : State) (a b c d : Word) : State := { s with res0 := a, res1 := b, res2 := c, res3 := d }

/-- An f64 result: RES0 is the low word and RES1 the high word (R154, R156). -/
def State.setResFloat (s : State) (v : F64) : State := s.setRes01 (v.extractLsb' 0 32) (v.extractLsb' 32 32)

/-! ## Calibration RAM (R38, R64) -/

/-- The CALRAM byte at a window offset. -/
def calByte (s : State) (off : Nat) : Byte := (s.calram[off - 0x100]?).getD 0

/-- The f64 at a CALRAM offset: `f64of(MemRead(off, 8))` (R64). -/
def calFloat (s : State) (off : Nat) : F64 := BitVec.ofNat 64 (leNat ((List.range 8).map fun i => calByte s (off + i)))

/-! ## The channel tables (R35, R37) -/

/-- Entry `i` of CHTAB or ACTTAB. -/
def tableEntry (t : Vector SlotEntry 16) (i : Nat) : SlotEntry := (t[i]?).getD 0

/-! ## The window as the host sees it -/

/-- The regions of R61. -/
inductive Region where
  | control | chtab | calram | fbuf | inbuf | rawout | outval | reserved
deriving DecidableEq, Repr

/-- `r`, or reserved at and beyond a region's parameter size (R61). -/
def regionWithin (i size : Nat) (r : Region) : Region := if i < size then r else .reserved

/-- The region of a window offset (R61): a byte of a region at or beyond its parameter size is reserved, and so are
the entries of a DAC that is absent (R38). -/
def regionOf (c : Config) (off : Nat) : Region :=
  if off < 0x40 then .control
  else if off < 0x60 then regionWithin (off - 0x40) (2 * c.maxCh) .chtab
  else if off < 0x100 then .reserved
  else if off < 0x328 then
    (if 0x300 ≤ off ∧ off < 0x320 then regionWithin (off - 0x300) (16 * c.nDac) .calram else .calram)
  else if off < 0x400 then .reserved
  else if off < 0x500 then regionWithin (off - 0x400) c.maxFrame .fbuf
  else if off < 0x800 then .reserved
  else if off < 0xC00 then regionWithin (off - 0x800) c.inbufSize .inbuf
  else if off < 0x1000 then regionWithin (off - 0xC00) c.rawoutSize .rawout
  else if off < 0x1400 then regionWithin (off - 0x1000) (8 * c.outvalN) .outval
  else .reserved

/-- The control register at a word offset as the host reads it (R23 to R34); unused bits read 0 (R49). -/
def controlWord (s : State) (off : Nat) : Word :=
  match off with
  | 0x00 => s.op
  | 0x04 => statusWord s
  | 0x08 => s.scfg.setWidth 32
  | 0x0C => s.rate
  | 0x10 => BitVec.ofNat 32 s.hiresSup.toNat
  | 0x14 => s.arg0
  | 0x18 => s.arg1
  | 0x20 => s.res0
  | 0x24 => s.res1
  | 0x28 => s.res2
  | 0x2C => s.res3
  | 0x30 => s.pprR.setWidth 32
  | 0x34 => s.pktR.setWidth 32
  | 0x38 => BitVec.ofNat 32 (s.rbuf.length % 2 ^ 12)
  | 0x3C => s.slot.setWidth 32
  | _ => 0

/-- The host writes the control register at a word offset (R27 to R29, R21). Reserved bits and read-only registers
ignore the write (R49, R50). OP is not here: writing it issues an operation (R23). -/
def writeControl (s : State) (off : Nat) (v : Word) : State :=
  match off with
  | 0x08 => { s with scfg := v.extractLsb' 0 11 }
  | 0x0C => { s with rate := v }
  | 0x10 => { s with hiresSup := v.getLsbD 0 }
  | 0x14 => { s with arg0 := v }
  | 0x18 => { s with arg1 := v }
  | _ => s

/-- A byte of a slot entry as the host reads it (R35, R65): `hi` selects bits [15:8], of which [15:11] read 0. -/
def entryByte (e : SlotEntry) (hi : Bool) : Byte :=
  if hi then (e.extractLsb' 8 3).setWidth 8 else e.extractLsb' 0 8

/-- A slot entry with one byte written and the other left (R65, R49). -/
def entryWithByte (e : SlotEntry) (hi : Bool) (b : Byte) : SlotEntry :=
  if hi then b.extractLsb' 0 3 ++ e.extractLsb' 0 8 else e.extractLsb' 8 3 ++ b

/-- What stands at a window offset: `none` for a byte that nothing has written (R52), a reserved byte reads 0
(R62). -/
def windowByte (s : State) (off : Nat) : Option Byte :=
  match regionOf s.cfg off with
  | .control => some ((controlWord s (off - off % 4)).extractLsb' (8 * (off % 4)) 8)
  | .chtab => some (entryByte (tableEntry s.chtab ((off - 0x40) / 2)) (off % 2 == 1))
  | .calram => some (calByte s off)
  | .reserved => some 0
  | _ => memoryGet s.mem off

/-- `MemRead(off, n)` by the host (R10, R63, R65): each unwritten byte is a free draw (R52). -/
def windowRead (s : State) (off n : Nat) : Nat :=
  leNat ((List.range n).map fun i => (windowByte s (off + i)).getD (Config.freeByte s.draws (off + i)))

/-- The host writes one byte beyond the control region. Reserved bytes and the read-only windows ignore it (R50,
R62). -/
def putByte (s : State) (off : Nat) (b : Byte) : State :=
  match regionOf s.cfg off with
  | .chtab =>
      let i := (off - 0x40) / 2
      { s with chtab := s.chtab.setIfInBounds i (entryWithByte (tableEntry s.chtab i) (off % 2 == 1) b) }
  | .calram => { s with calram := s.calram.setIfInBounds (off - 0x100) b }
  | .fbuf => s.store off [b]
  | .inbuf => s.store off [b]
  | _ => s

/-- The host writes bytes at consecutive offsets. -/
def putBytes : State → Nat → List Byte → State
  | s, _, [] => s
  | s, off, b :: bs => putBytes (putByte s off b) (off + 1) bs

/-- A performed host write that issues no operation (R67): `MemWrite(off, n, v)`. -/
def windowWrite (s : State) (off n : Nat) (v : Word) : State :=
  if off < 0x40 then writeControl s off v else putBytes s off (leBytes n v.toNat)

/-- The rules of R66: 8, 16 or 32 bits, naturally aligned, within the window, and 32 bits only in the control
region. -/
def accessPermitted (off n : Nat) : Bool :=
  (n == 1 || n == 2 || n == 4) && off % n == 0 && decide (off + n ≤ windowSize) && (decide (0x40 ≤ off) || n == 4)

/-- The window offset of an access of `n` bytes at bus address `addr`, when R66 permits it (R60). -/
def accessOffset (c : Config) (n addr : Nat) : Option Nat :=
  if c.base ≤ addr ∧ accessPermitted (addr - c.base) n then some (addr - c.base) else none

/-- The answer to the last access becomes `r`. -/
def State.answered (s : State) (r : Reply) : State := { s with reply := r }

/-- Reset by the platform (R260): every piece of architectural state at the value of R53. The events still to come
stay, and draws already made are not made again (DEDUCED, log 10). -/
def State.hostReset (s : State) : State := { State.resetOf s.cfg with bus := s.bus, draws := s.draws }

end Sys2Proof.Machine
end

