-- ==== Sys2Proof/Machine/Codec.lean ====
section
/-! DEFINITION. CODEC: the checksums (`40_codec.md` R120 to R122) and the meanings of CK.ENCODE and CK.DECODE. -/

namespace Sys2Proof.Machine

/-- The reduction of the checksum-8 sum to one byte (R120). -/
def reduce8 : Ck8Reduce → Nat → Nat
  | .fold, t =>
      let a := t % 256 + t / 256 % 256
      a % 256 + a / 256
  | .mod256, t => t % 256

/-- FBUF[lo..hi-1] (R11). -/
def frameBytes (s : State) (draw lo hi : Nat) : List Byte := drawBytes s draw (fbufBase + lo) (hi - lo)

/-- `ck8(L)` (R120): over FBUF[1..L-1]. -/
def ck8 (s : State) (draw l : Nat) : Nat := reduce8 s.cfg.ck8Reduce (byteSum (frameBytes s draw 1 l))

/-- `ck16(L)` (R122): over FBUF[6..L-1]. -/
def ck16 (s : State) (draw l : Nat) : Nat := byteSum (frameBytes s draw 6 l) % 65536

/-- The legal range of the frame length L for frame class X (R104, R105, R123, R125). -/
def frameLenLegal (c : Config) (l : Nat) (x : Bool) : Bool :=
  decide ((if x then extMinLen else c.shortMinLen) ≤ l) && decide (l ≤ c.maxFrame)

/-- A checksum pair as RES0 and RES1 hold it (R123, R125): CK8 in [7:0], CK16 in [31:16]. -/
def checksumWord (c8 c16 : Nat) : Word := BitVec.ofNat 32 (c8 + c16 * 2 ^ 16)

/-- The checksum-16 stored little-endian in FBUF[4] and FBUF[5] (R122). -/
def State.putCk16 (s : State) (c16 : Nat) : State :=
  s.store (fbufBase + 4) (leBytes 2 c16)

/-- CK.ENCODE (R123, R124): the checksum-16 first, then the checksum-8 over the bytes as just written. The two sums
are two reads of FBUF, so an unwritten byte is drawn for each (R52). -/
def execCkEncode (l : Nat) (x : Bool) (s : State) : Result :=
  if frameLenLegal s.cfg l x then
    let c16 := if x then ck16 s s.draws l else 0
    let s1 := if x then s.putCk16 c16 else s
    let c8 := ck8 s1 (s.draws + 1) l
    finish .ok (((s1.putFbuf 0 (BitVec.ofNat 8 c8)).setRes0 (checksumWord c8 c16)).drawn 2)
  else raise .badOperand s

/-- The first i of `is` whose frame byte differs from the expected echo byte (R125). -/
def firstMismatch (s : State) (draw : Nat) : List Nat → Option Nat
  | [] => none
  | i :: is => if fbufByte s draw i = echoByte s.arg0 i then firstMismatch s draw is else some i

/-- The recomputed checksums of CK.DECODE (R125): reads `s.draws` and `s.draws + 2`. -/
def recomputed (s : State) (l : Nat) (x : Bool) : Nat × Nat :=
  (ck8 s s.draws l, if x then ck16 s (s.draws + 2) l else 0)

/-- The stored checksums of CK.DECODE (R125): reads `s.draws + 1` and `s.draws + 3`. -/
def stored (s : State) (x : Bool) : Nat × Nat :=
  ((fbufByte s (s.draws + 1) 0).toNat, if x then leNat (frameBytes s (s.draws + 3) 4 6) else 0)

/-- The results of CK.DECODE (R125): the recomputed checksums, the stored ones, and the first mismatching index or 0;
RES3 is kept. -/
def State.judged (s : State) (c t : Nat × Nat) (i : Nat) : State :=
  s.setResults (checksumWord c.1 c.2) (checksumWord t.1 t.2) (BitVec.ofNat 32 i) s.res3

/-- CK.DECODE (R125, R126): operand checks, then length, then the checksums together, then the echo. -/
def execCkDecode (l : Nat) (x : Bool) (k : Nat) (s : State) : Result :=
  if !frameLenLegal s.cfg l x || k == 0 || decide (l < k + 1) then raise .badOperand s
  else if receivedLen s.arg1 ≠ l then raise .lengthMismatch s
  else
    let c := recomputed s l x
    let t := stored s x
    if c ≠ t then finish .checksumError ((s.judged c t 0).drawn 5)
    else
      match firstMismatch s (s.draws + 4) (List.range' 1 k) with
      | some i => finish .echoMismatch ((s.judged c t i).drawn 5)
      | none => finish .ok ((s.judged c t 0).drawn 5)

end Sys2Proof.Machine
end

