-- ==== Sys2Proof/Machine/Float.lean ====
section
/-! DEFINITION. IEEE 754 binary64 multiply and add, each correctly rounded once in roundTiesToEven
(`41_calibration.md` R150, R151). A finite value is read as an exact integer times a power of two, the exact result
is computed, and one rounding narrows it. -/

namespace Sys2Proof.Machine

/-- What a binary64 encoding stands for. -/
inductive FloatVal where
  | nan
  | inf (neg : Bool)
  | fin (neg : Bool) (m : Nat) (e : Int)   -- (-1)^neg * m * 2^e
deriving DecidableEq, Repr

/-- The value of an encoding: sign bit 63, exponent field [62:52], fraction [51:0]. Subnormals keep their value
(R150). -/
def unpack (u : F64) : FloatVal :=
  let neg := u.getLsbD 63
  let ex : Nat := u.toNat / 2 ^ 52 % 2 ^ 11
  let fr : Nat := u.toNat % 2 ^ 52
  if ex = 2047 then (if fr = 0 then .inf neg else .nan)
  else if ex = 0 then .fin neg fr (-1074)
  else .fin neg (2 ^ 52 + fr) (Int.ofNat ex - 1075)

/-- The canonical quiet NaN (R151). -/
def canonicalNaN : F64 := 0x7FF8000000000000#64

/-- The encoding with sign `neg` and magnitude bits `mag`. -/
def packSign (neg : Bool) (mag : Nat) : F64 := BitVec.ofNat 64 ((if neg then 2 ^ 63 else 0) + mag)

/-- The magnitude bits of an infinity. -/
def infMag : Nat := 0x7FF0000000000000

/-- `m / 2^k` rounded to the nearest natural number, ties to even. -/
def roundShift (m k : Nat) : Nat :=
  let q := m / 2 ^ k
  let r := m % 2 ^ k
  if 2 ^ k < 2 * r ∨ (2 * r = 2 ^ k ∧ q % 2 = 1) then q + 1 else q

/-- The exponent of the last place kept for `m * 2^e` with `m > 0`: 53 significant bits, but no place below the
smallest subnormal's, 2^-1074. -/
def lastPlace (m : Nat) (e : Int) : Int := max (e + (Nat.log2 m : Int) - 52) (-1074)

/-- The magnitude bits of `m * 2^e`, `m > 0`, rounded once to nearest, ties to even (R150). With `M` the rounded
integer number of last places `q`, the encoding is `(q + 1074) * 2^52 + M`: a carry out of the 53 bits moves into the
exponent field, and a result past the largest finite value is an infinity. -/
def roundMag (m : Nat) (e : Int) : Nat :=
  let q := lastPlace m e
  let M := if q ≤ e then m * 2 ^ (e - q).toNat else roundShift m (q - e).toNat
  min ((q + 1074).toNat * 2 ^ 52 + M) infMag

/-- The binary64 nearest to `(-1)^neg * m * 2^e` with `m > 0`. -/
def roundFloat (neg : Bool) (m : Nat) (e : Int) : F64 := packSign neg (roundMag m e)

/-- `fmul(a, b)` (R10, R150, R151). -/
def fmul (a b : F64) : F64 :=
  match unpack a, unpack b with
  | .nan, _ => canonicalNaN
  | _, .nan => canonicalNaN
  | .inf n1, .inf n2 => packSign (n1 ^^ n2) infMag
  | .inf n1, .fin n2 m _ => if m = 0 then canonicalNaN else packSign (n1 ^^ n2) infMag
  | .fin n1 m _, .inf n2 => if m = 0 then canonicalNaN else packSign (n1 ^^ n2) infMag
  | .fin n1 m1 e1, .fin n2 m2 e2 =>
      if m1 * m2 = 0 then packSign (n1 ^^ n2) 0 else roundFloat (n1 ^^ n2) (m1 * m2) (e1 + e2)

/-- `(-1)^neg * m`, as an integer. -/
def signedInt (neg : Bool) (m : Nat) : Int := if neg then -(m : Int) else m

/-- The exact sum of two finite values, in units of `2^(min e1 e2)`. -/
def exactSum (n1 : Bool) (m1 : Nat) (e1 : Int) (n2 : Bool) (m2 : Nat) (e2 : Int) : Int :=
  signedInt n1 (m1 * 2 ^ (e1 - min e1 e2).toNat) + signedInt n2 (m2 * 2 ^ (e2 - min e1 e2).toNat)

/-- `fadd(a, b)` (R10, R150, R151). An exact zero sum is +0, except that of two negative zeros. -/
def fadd (a b : F64) : F64 :=
  match unpack a, unpack b with
  | .nan, _ => canonicalNaN
  | _, .nan => canonicalNaN
  | .inf n1, .inf n2 => if n1 = n2 then packSign n1 infMag else canonicalNaN
  | .inf n1, .fin _ _ _ => packSign n1 infMag
  | .fin _ _ _, .inf n2 => packSign n2 infMag
  | .fin n1 m1 e1, .fin n2 m2 e2 =>
      let t := exactSum n1 m1 e1 n2 m2 e2
      if t = 0 then packSign (n1 && n2) 0
      else roundFloat (decide (t < 0)) t.natAbs (min e1 e2)

/-- `cvt(n)`: the f64 equal to the natural number `n`, exact for n < 2^53 (R10). -/
def cvt (n : Nat) : F64 := if n = 0 then 0 else roundFloat false n 0

end Sys2Proof.Machine
end

