-- ==== Sys2Proof/Machine/Calib.lean ====
section
/-! DEFINITION. CAL: the transforms AIN, TEMP and DAC (`41_calibration.md` R152 to R157) and the meanings of CV.AIN,
CV.TEMP and CV.DAC. No operand, calibration constant or voltage raises a status (R160), but a DAC that is absent. -/

namespace Sys2Proof.Machine

/-- The calibration set used with resolution hint `res` (R152): 1, the high-resolution pair, or 0. -/
def calSet (s : State) (res : Nat) : Nat := if s.hiresSup ∧ s.cfg.hiresThreshold < res then 1 else 0

/-- The analog transform `AIN(RAW, G, RES)` (R153): a multiply, then an add, never fused (R150). -/
def ain (s : State) (raw g res : Nat) : F64 :=
  fadd (fmul (cvt raw) (calFloat s (ainSlopeAt (calSet s res) g))) (calFloat s (ainOffsetAt (calSet s res) g))

/-- The temperature transform `TEMP(RAW)` (R155). -/
def temp (s : State) (raw : Nat) : F64 := fmul (cvt raw) (calFloat s tempSlopeAt)

/-- The clamped, truncated code of a transformed voltage `t`, with its clamp indicator: 0 in range, 1 clamped low or
NaN, 2 clamped high (R157). -/
def dacCode (bits : Nat) (t : F64) : Nat × Nat :=
  let maxc := 2 ^ bits - 1
  match unpack t with
  | .nan => (0, 1)
  | .inf true => (0, 1)
  | .inf false => (maxc, 2)
  | .fin neg m e =>
      let num := m * 2 ^ e.toNat
      let den := 2 ^ (-e).toNat
      if m = 0 then (0, 0)
      else if neg then (0, 1)
      else if maxc * den ≤ num then (maxc, if maxc * den < num then 2 else 0)
      else (num / den, 0)

/-- The DAC transform `DAC(V, d)` (R157). -/
def dac (s : State) (v : F64) (d : Nat) : Nat × Nat :=
  dacCode s.cfg.dacBits (fadd (fmul v (calFloat s (dacSlopeAt d))) (calFloat s (dacOffsetAt d)))

/-- CV.AIN (R154). -/
def execCvAin (raw g res : Nat) (s : State) : Result := finish .ok (s.setResFloat (ain s raw g res))

/-- CV.TEMP (R156). -/
def execCvTemp (raw : Nat) (s : State) : Result := finish .ok (s.setResFloat (temp s raw))

/-- CV.DAC (R158). -/
def execCvDac (d : Nat) (s : State) : Result :=
  if s.cfg.nDac ≤ d then raise .badOperand s
  else
    let r := dac s (dacVolts s) d
    finish .ok (s.setRes01 (BitVec.ofNat 32 r.1) (BitVec.ofNat 32 r.2))

end Sys2Proof.Machine
end

