-- ==== Sys2Proof/Machine/Stream.lean ====
section
/-! DEFINITION. REASM: the stream state machine, the packet reassembler and the sample decoder (`42_stream.md` R180 to
R200), and the meanings of ST.CONFIGURE, ST.START, ST.NEXTBLK and ST.STOP. -/

namespace Sys2Proof.Machine

/-! ## The state operations -/

/-- RBUF is emptied and SLOT restarts at 0 (R181, R185, R186). -/
def State.emptied (s : State) : State := { s with rbuf := [], slot := 0 }

/-- RBUF, and nothing else, becomes `b`. -/
def State.setRbuf (s : State) (b : List Byte) : State := { s with rbuf := b }

/-- SLOT, and nothing else, becomes `v`. -/
def State.setSlot (s : State) (v : BitVec 4) : State := { s with slot := v }

/-- The channel list that CONFIGURE accepts (R181, R184): equal list lengths, 1 to MAX_CH, no reserved KIND in a
configured slot. -/
def channelsLegal (s : State) : Bool :=
  let n := (scfgNch s.scfg).toNat
  scfgNch s.scfg == scfgNopt s.scfg && decide (1 ≤ n) && decide (n ≤ s.cfg.maxCh) &&
  (List.range n).all fun i => decide (entryKind (tableEntry s.chtab i) ≠ 3)

/-- The packets per read for the requested scan frequency (R182). -/
def packetsPerRead (c : Config) (rate : Word) : Nat := if c.rateThreshold ≤ rate.toNat then c.pprHi else c.pprLo

/-- The packet size of a transport, true for NET (R183). -/
def packetSize (c : Config) (net : Bool) : Nat := if net then c.pktNet else c.pktLocal

/-- ACTTAB as CONFIGURE latches it: CHTAB entries 0 to n-1, the rest 0 (R181, R37). -/
def latchTable (t : Vector SlotEntry 16) (n : Nat) : Vector SlotEntry 16 :=
  Vector.ofFn fun i => if i.val < n then t[i] else 0

/-- What CONFIGURE latches (R181): ATR, ANCH, ACTTAB, PPR_R and PKT_R. -/
def State.latched (s : State) : State :=
  { s with
    atr := scfgTr s.scfg
    anch := scfgNch s.scfg
    acttab := latchTable s.chtab (scfgNch s.scfg).toNat
    pprR := BitVec.ofNat 8 (packetsPerRead s.cfg s.rate)
    pktR := BitVec.ofNat 8 (packetSize s.cfg (scfgTr s.scfg)) }

/-- ST.CONFIGURE (R181). -/
def execStConfigure (s : State) : Result :=
  if s.stream = .streaming then raise .stateError s
  else if channelsLegal s then finish .ok ((s.latched.emptied.setTrunc false).setStream .configured)
  else raise .configError s

/-- ST.START (R185). -/
def execStStart (s : State) : Result :=
  if s.stream = .configured then finish .ok ((s.emptied.setTrunc false).setStream .streaming)
  else raise .stateError s

/-- ST.STOP (R186): leftover bytes are discarded, TRUNC is kept. -/
def execStStop (s : State) : Result :=
  if s.stream = .streaming then finish .ok (s.emptied.setStream .configured)
  else raise .stateError s

/-! ## Packets and samples -/

/-- The first `n` packets of `pkt` bytes, found by counting alone (R190). -/
def packets (pkt : Nat) : Nat → List Byte → List (List Byte)
  | 0, _ => []
  | n + 1, bs => bs.take pkt :: packets pkt n (bs.drop pkt)

/-- A garbage packet of the local transport (R196). -/
def garbage (c : Config) (p : List Byte) : Bool :=
  p.getD c.offEmpty 0 == c.emptyVal && (List.range (2 * c.spp)).all fun i => p.getD (c.offSamples + i) 0 == 0

/-- The raw samples of a packet, 2 bytes each, little-endian, unsigned (R192). -/
def packetSamples (c : Config) (p : List Byte) : List Nat :=
  (List.range c.spp).map fun j => le16 p (c.offSamples + 2 * j)

/-- The conversion of a raw sample by its latched slot entry (R193). The reserved KIND 3 has no result
there and is never latched (R181): a free value stands for it (log 6). -/
def conv (s : State) (e : SlotEntry) (raw : Nat) : F64 :=
  match entryKind e with
  | 0 => ain s raw (entryGain e) (entryRes e)
  | 1 => cvt raw
  | 2 => temp s raw
  | _ => Config.reservedKindValue raw

/-- The slot after `slot`: round robin over the ANCH latched slots (R191, R192). -/
def nextSlot (s : State) (slot : BitVec 4) : BitVec 4 := BitVec.ofNat 4 ((slot.toNat + 1) % s.anch.toNat)

/-- The converted samples, in order, when the first one belongs to `slot` (R191, R192). -/
def convSamples (s : State) : BitVec 4 → List Nat → List F64
  | _, [] => []
  | slot, raw :: raws => conv s (tableEntry s.acttab slot.toNat) raw :: convSamples s (nextSlot s slot) raws

/-- SLOT after `n` samples (R191). -/
def slotAfter (s : State) : BitVec 4 → Nat → BitVec 4
  | slot, 0 => slot
  | slot, n + 1 => slotAfter s (nextSlot s slot) n

/-- The raw samples of a block, in order (R191). -/
def blockSamples (c : Config) (ps : List (List Byte)) : List Nat := ps.flatMap (packetSamples c)

/-- The bytes of OUTVAL that a block writes: its f64 values, 8 bytes each, little-endian (R191, R44). -/
def valueBytes (vs : List F64) : List Byte := vs.flatMap fun v => leBytes 8 v.toNat

/-- The block's error counter: the sum of the OFF_ERR bytes of the emitted packets (R194). -/
def errorSum (c : Config) (ps : List (List Byte)) : Nat := (ps.map fun p => (p.getD c.offErr 0).toNat).sum

/-- `pending(dropped)` (R197). -/
def pendingBlock (dropped : Nat) (s : State) : Result :=
  finish .pending (s.setResults (BitVec.ofNat 32 (dropped * 2 ^ 8)) 0 0 0)

/-- Memory as a block leaves it (R191): RAWOUT and OUTVAL get the block's bytes, and bytes beyond the block keep their
contents. The windows' own sizes bound what is stored; with a legal configuration the block always fits (R8). -/
def blockMemory (c : Config) (m : Memory) (ps : List (List Byte)) (vs : List F64) : Memory :=
  memoryStore (memoryStore m rawoutBase (ps.flatten.take c.rawoutSize)) outvalBase
    ((valueBytes vs).take (8 * c.outvalN))

/-- The values that a block writes to OUTVAL (R191). -/
def blockValues (s : State) (ps : List (List Byte)) : List F64 := convSamples s s.slot (blockSamples s.cfg ps)

/-- The results of a block (R191): packet and dropped counts, error sum, first counter, number of values. -/
def State.setBlockResults (s : State) (ps : List (List Byte)) (dropped : Nat) : State :=
  s.setResults (BitVec.ofNat 32 (ps.length + dropped * 2 ^ 8)) (BitVec.ofNat 32 (errorSum s.cfg ps))
    (BitVec.ofNat 32 ((ps.headD []).getD s.cfg.offCtr 0).toNat) (BitVec.ofNat 32 (ps.length * s.cfg.spp))

/-- `emit(P, dropped)` (R191). -/
def emitBlock (ps : List (List Byte)) (dropped : Nat) (s : State) : Result :=
  finish .ok
    (((s.setMem (blockMemory s.cfg s.mem ps (blockValues s ps))).setSlot
      (slotAfter s s.slot (blockSamples s.cfg ps).length)).setBlockResults ps dropped)

/-! ## ST.NEXTBLK -/

/-- The local-transport path (R188). No byte is kept across reads. -/
def nextblkLocal (m : Nat) (s : State) : Result :=
  let pkt := s.pktR.toNat
  if s.pprR.toNat * pkt < m then raise .badOperand s
  else
    let n := m / pkt
    let cand := packets pkt n (inbufBytes s s.draws m)
    let usable := cand.filter fun p => !garbage s.cfg p
    let s1 := (if m % pkt ≠ 0 then s.setTrunc true else s).drawn 1
    if usable = [] then pendingBlock (n - usable.length) s1 else emitBlock usable (n - usable.length) s1

/-- How many packets the network path emits from `len` held bytes (R189): a full batch, or, on a flush, every whole
packet (R200), or none. -/
def netPackets (ppr pkt len : Nat) (f : Bool) : Option Nat :=
  if ppr * pkt ≤ len then some ppr
  else if f ∧ pkt ≤ len then some (len / pkt)
  else none

/-- The network-transport path (R189). Bytes that are not emitted stay in RBUF. -/
def nextblkNet (m : Nat) (f : Bool) (s : State) : Result :=
  let pkt := s.pktR.toNat
  if s.cfg.rbufCap < s.rbuf.length + m then raise .overflow s
  else
    let buf := s.rbuf ++ inbufBytes s s.draws m
    match netPackets s.pprR.toNat pkt buf.length f with
    | none => pendingBlock 0 ((s.setRbuf buf).drawn 1)
    | some n => emitBlock (packets pkt n buf) 0 ((s.setRbuf (buf.drop (n * pkt))).drawn 1)

/-- ST.NEXTBLK (R187). -/
def execStNextblk (m : Nat) (f : Bool) (s : State) : Result :=
  if s.stream ≠ .streaming then raise .stateError s
  else if s.cfg.inbufSize < m then raise .badOperand s
  else if s.atr then nextblkNet m f s
  else nextblkLocal m s

end Sys2Proof.Machine
end

