-- ==== Sys2Proof/Machine/Dispatch.lean ====
section
/-! DEFINITION. The dispatch: one arm per operation of the opcode map (`30_encoding.md` R97). -/

namespace Sys2Proof.Machine

def exec (i : Instr) (s : State) : Host.Outcome State Fault Refusal :=
  match i with
  -- CODEC (40_codec.md)
  | .ckEncode l x => Sys2Proof.Machine.execCkEncode l x s
  | .ckDecode l x k => Sys2Proof.Machine.execCkDecode l x k s
  -- REASM (42_stream.md)
  | .stConfigure => Sys2Proof.Machine.execStConfigure s
  | .stStart => Sys2Proof.Machine.execStStart s
  | .stNextblk m f => Sys2Proof.Machine.execStNextblk m f s
  | .stStop => Sys2Proof.Machine.execStStop s
  -- CAL (41_calibration.md)
  | .cvAin raw g res => Sys2Proof.Machine.execCvAin raw g res s
  | .cvTemp raw => Sys2Proof.Machine.execCvTemp raw s
  | .cvDac d => Sys2Proof.Machine.execCvDac d s

end Sys2Proof.Machine
end

