-- ==== Sys2Proof/Machine/Bus.lean ====
section
/-! DEFINITION. The block as a bus slave: how it takes one bus event (`10_state.md` R23, `20_memory.md` R66 to R70,
`60_exceptions.md` R232). -/

namespace Sys2Proof.Machine

/-- OP, and nothing else, becomes `w`. -/
def State.setOp (s : State) (w : Word) : State := { s with op := w }

/-- The bus events still to come become `evs`. -/
def State.setBus (s : State) (evs : List BusEvent) : State := { s with bus := evs }

/-- A 32-bit write to OP (R23): the word is stored, then the operation it encodes is performed, as one step (R12). An
illegal word does only `raise ILLEGAL_OP` (R98, R99). -/
def issue (w : Word) (s : State) : Result :=
  match decode w with
  | .op i => exec i (s.setOp w)
  | .illegal _ => raise .illegalOp (s.setOp w)

/-- A host read (R67): no side effect. It counts as one draw of unwritten bytes (R52). -/
def hostRead (n addr : Nat) (s : State) : Result :=
  match accessOffset s.cfg n addr with
  | none => .next (s.answered .busError)
  | some off =>
      if off < 0x40 then .next (s.answered (.data (controlWord s off)))
      else .next ((s.answered (.data (BitVec.ofNat 32 (windowRead s off n)))).drawn 1)

/-- A host write (R67): to OP it issues an operation (R23), anywhere else it only stores its bytes, or is ignored. -/
def hostWrite (n addr : Nat) (v : Word) (s : State) : Result :=
  match accessOffset s.cfg n addr with
  | none => .next (s.answered .busError)
  | some off =>
      if off = 0 then issue v (s.answered .ack)
      else .next ((windowWrite s off n v).answered .ack)

/-- One bus event, already taken off the bus. -/
def handle (ev : BusEvent) (s : State) : Result :=
  match ev with
  | .read n addr => hostRead n addr s
  | .write n addr v => hostWrite n addr v s
  | .reset => .next s.hostReset

/-- The block takes the next bus event, in the order of arrival (R70). With none to take it is idle and keeps all
state (R244; log 15). A configuration that breaks R8 is rejected. -/
def serve (s : State) : Result :=
  if s.cfg.legal then
    match s.bus with
    | [] => .next s
    | ev :: rest => handle ev (s.setBus rest)
  else .refused .illegalConfig

/-- The bus address of OP (R23, R60). -/
def opAddress (s : State) : Nat := s.cfg.base

/-- `s` with a 32-bit write of `w` to OP as the next bus event: the host issues the operation word `w` (R23). -/
def State.withOpWrite (s : State) (w : Word) : State := s.setBus (.write 4 (opAddress s) w :: s.bus)

end Sys2Proof.Machine
end

