-- ==== Sys2Proof/Machine/Step.lean ====
section
/-! DEFINITION. One step of the block: the next bus event, complete before the one after it (`20_memory.md` R70). -/

namespace Sys2Proof.Machine

/-- One step (R12, R70). -/
def step (s : State) : Host.Outcome State Fault Refusal := serve s

/-- `s` with the operation word of `w` as the host's next access, a 32-bit write to OP. The block holds no program
(R22): a program is the host's sequence of accesses, and this is the host issuing one operation (log 5). -/
def State.withFetchWord (s : State) (nbits w : Nat) : State := s.withOpWrite (BitVec.ofNat 32 (w % 2 ^ nbits))

end Sys2Proof.Machine
end

