-- ==== Sys2Proof/Machine/Script.lean ====
section
/-! DEFINITION. Host scripts (`30_encoding.md` R110): the statements that the spec writes programs with, as bus events.
They say what a host sends; the block itself holds no program (`10_state.md` R22). -/

namespace Sys2Proof.Machine

/-- `W32 off, v`. -/
def w32 (c : Config) (off : Nat) (v : Word) : List BusEvent := [.write 4 (c.base + off) v]

/-- `W16 off, v`. -/
def w16 (c : Config) (off : Nat) (v : Half) : List BusEvent := [.write 2 (c.base + off) (v.setWidth 32)]

/-- `W8 off, v`. -/
def w8 (c : Config) (off : Nat) (v : Byte) : List BusEvent := [.write 1 (c.base + off) (v.setWidth 32)]

/-- `R32 off`. -/
def r32 (c : Config) (off : Nat) : List BusEvent := [.read 4 (c.base + off)]

/-- `R16 off`. -/
def r16 (c : Config) (off : Nat) : List BusEvent := [.read 2 (c.base + off)]

/-- `R8 off`. -/
def r8 (c : Config) (off : Nat) : List BusEvent := [.read 1 (c.base + off)]

/-- An operation mnemonic on its own line: `W32 0x000, <its word>`. -/
def opLine (c : Config) (i : Instr) : List BusEvent := w32 c 0 (encode i)

/-- `WBYTES off, b0 b1 ... bn`. -/
def wbytes (c : Config) : Nat → List Byte → List BusEvent
  | _, [] => []
  | off, b :: bs => w8 c off b ++ wbytes c (off + 1) bs

/-- `WF64 off, x`: the low word, then the high word. -/
def wf64 (c : Config) (off : Nat) (x : F64) : List BusEvent :=
  w32 c off (x.extractLsb' 0 32) ++ w32 c (off + 4) (x.extractLsb' 32 32)

/-- `RF64 off`. -/
def rf64 (c : Config) (off : Nat) : List BusEvent := r32 c off ++ r32 c (off + 4)

/-- `WARG echo E1 E2 E3, N`. -/
def wargEcho (c : Config) (e1 e2 e3 : Byte) (n : Word) : List BusEvent :=
  w32 c 0x14 (0#8 ++ e3 ++ e2 ++ e1) ++ w32 c 0x18 n

/-- `WVOLTS x`. -/
def wvolts (c : Config) (x : F64) : List BusEvent :=
  w32 c 0x14 (x.extractLsb' 0 32) ++ w32 c 0x18 (x.extractLsb' 32 32)

/-- `s` with a script still to come after the events it already awaits. -/
def State.withScript (s : State) (evs : List BusEvent) : State := s.setBus (s.bus ++ evs)

end Sys2Proof.Machine
end

