-- ==== Sys2Proof/Safety.lean ====
section
/-! DEFINITION. What claims are stated in: the invariant of the block, its reachable states, and a run of operations
with the host's accesses between them. -/

namespace Sys2Proof.Machine

/-- An offset of FBUF, INBUF, RAWOUT or OUTVAL, within the region's parameter size (R61). -/
def inByteWindow (c : Config) (off : Nat) : Bool :=
  match regionOf c off with
  | .fbuf | .inbuf | .rawout | .outval => true
  | _ => false

/-- Every entry of a channel table from index `n` on is 0. -/
def tableZeroFrom (t : Vector SlotEntry 16) (n : Nat) : Bool :=
  (List.range 16).all fun i => decide (i < n) || tableEntry t i == 0

/-- The memory is canonical and lists only bytes that exist (R52, R61). -/
def memoryLegal (s : State) : Bool := memoryWf s.mem && s.mem.all fun c => inByteWindow s.cfg c.1

/-- The reserved entries of CHTAB read 0 (R35, R51). -/
def chtabLegal (s : State) : Bool := tableZeroFrom s.chtab s.cfg.maxCh

/-- What CONFIGURE latches, before any and after one (R30, R31, R37, R181). -/
def latchLegal (s : State) : Bool :=
  if s.stream = .idle then
    !s.atr && s.anch == 0 && tableZeroFrom s.acttab 0 && s.pprR == 0 && s.pktR == 0
  else
    decide (1 ≤ s.anch.toNat) && decide (s.anch.toNat ≤ s.cfg.maxCh) && tableZeroFrom s.acttab s.anch.toNat &&
    ((List.range s.anch.toNat).all fun i => decide (entryKind (tableEntry s.acttab i) ≠ 3)) &&
    (s.pprR.toNat == s.cfg.pprLo || s.pprR.toNat == s.cfg.pprHi) && s.pktR.toNat == packetSize s.cfg s.atr

/-- The leftover of the reassembler (R45 to R47): RBUF fits, is empty on the local transport, and is empty with
SLOT = 0 outside STREAMING; SLOT names a latched slot. -/
def leftoverLegal (s : State) : Bool :=
  decide (s.rbuf.length ≤ s.cfg.rbufCap) && (s.atr || s.rbuf == []) &&
  (decide (s.stream = .streaming) || (s.rbuf == [] && s.slot == 0)) && decide (s.slot.toNat < max s.anch.toNat 1)

/-- The invariant of the block. -/
def State.inv (s : State) : Bool :=
  s.cfg.legal && memoryLegal s && chtabLegal s && latchLegal s && leftoverLegal s

/-- The state meets the invariant. -/
abbrev State.Inv (s : State) : Prop := s.inv = true

/-- The states that some host reaches: from reset with a legal configuration, through any steps, with any further bus
events presented at any time. -/
inductive Reachable : State → Prop where
  | reset (c : Config) (h : c.legal = true) : Reachable (State.resetOf c)
  | present (s : State) (evs : List BusEvent) (h : Reachable s) : Reachable (s.withScript evs)
  | step (s t : State) (h : Reachable s) (hs : step s = .next t) : Reachable t

/-- A safe state: the block takes its next event, whatever it is, without a stop. -/
def Safe (s : State) : Prop := ∃ t, step s = .next t

/-- The bytes `bs` stand at window offset `off`, all of them written. -/
def windowHolds (s : State) (off : Nat) (bs : List Byte) : Bool :=
  (List.range bs.length).all fun i => decide (windowByte s (off + i) = bs[i]?)

/-- Beyond the control region, every byte of the window outside the given ranges (first offset, length) reads after as
it read before. -/
def SameWindowExcept (ranges : List (Nat × Nat)) (s t : State) : Prop :=
  ∀ off, 0x40 ≤ off → (∀ r ∈ ranges, off < r.1 ∨ r.1 + r.2 ≤ off) → windowByte t off = windowByte s off

/-- The exact value of a finite binary64: (-1)^neg * m * 2^e. -/
def finRat (neg : Bool) (m : Nat) (e : Int) : ℚ := (if neg then -1 else 1) * (m : ℚ) * 2 ^ e

/-- The exact value of an encoding, when it is finite. -/
def floatRat (u : F64) : Option ℚ :=
  match unpack u with
  | .fin neg m e => some (finRat neg m e)
  | _ => none

/-- `u` is the binary64 that roundTiesToEven gives for the exact value `q` (R150): no finite binary64 is nearer, of two
equally near ones it is the one whose last bit is 0, and past the largest finite value by half a last place or more
it is the infinity of q's sign. Where q is not 0 its sign is the sign bit of `u`, a zero that it underflows to included. -/
def RoundsTo (q : ℚ) (u : F64) : Prop :=
  (q ≠ 0 → u.getLsbD 63 = decide (q < 0)) ∧
  if |q| < 2 ^ 1024 - 2 ^ 970 then
    ∃ v, floatRat u = some v ∧
      ∀ c w, floatRat c = some w → |v - q| ≤ |w - q| ∧ (|v - q| = |w - q| → w ≠ v → u.getLsbD 0 = false)
  else unpack u = .inf (decide (q < 0))

/-- The host places the bytes of one transport read in INBUF (R42), then issues ST.NEXTBLK (R262, step 8). -/
def deliver (bytes : List Byte) (f : Bool) (s : State) : Result :=
  execStNextblk bytes.length f (putBytes s inbufBase bytes)

/-- Transport reads delivered one after another, with the packet bytes that the OK results put in RAWOUT, in order;
`none` when an operation ends in another status than OK or PENDING (R203). -/
def deliverAll : List (List Byte × Bool) → State → Option (State × List Byte)
  | [], s => some (s, [])
  | (bytes, f) :: reads, s =>
    match deliver bytes f s with
    | .next t =>
      if t.code = .ok then
        (deliverAll reads t).map fun r =>
          (r.1, drawBytes t t.draws rawoutBase ((t.res0.toNat % 256) * t.pktR.toNat) ++ r.2)
      else if t.code = .pending then deliverAll reads t
      else none
    | _ => none

end Sys2Proof.Machine
end

