-- ==== Sys2Proof/Certificates/Slice0/Obligations.lean ====
section
/-! DEFINITION. The statements for the provers, `def Obligations.<Name> : Prop`, with the few definitions they are
written in. Each docstring names the rule of the spec it formalises. -/

namespace Sys2Proof.Machine

/-! ## What the statements are written in -/

/-- The rows of spec/opcode_table.json: opcode, mask, match (`30_encoding.md` R97, R100). -/
def opcodeTable : List (Nat × Word × Word) :=
  [(1, 0xFFFE00EF#32, 0x1#32), (2, 0xFFFE008F#32, 0x2#32), (3, 0xFFFFFFFF#32, 0x3#32),
   (4, 0xFFFFFFFF#32, 0x4#32), (5, 0xFFF800EF#32, 0x5#32), (6, 0xFFFFFFFF#32, 0x6#32),
   (7, 0x0000E00F#32, 0x7#32), (8, 0x0000FFFF#32, 0x8#32), (9, 0xFFFFFFEF#32, 0x9#32)]

/-- The opcode of an operation (R97). -/
def opcodeOf : Instr → Nat
  | .ckEncode .. => 1
  | .ckDecode .. => 2
  | .stConfigure => 3
  | .stStart => 4
  | .stNextblk .. => 5
  | .stStop => 6
  | .cvAin .. => 7
  | .cvTemp .. => 8
  | .cvDac .. => 9

/-- The checksum-8 of a byte sum, in the closed form of R121 for FOLD and as R120 says for MOD256. -/
def checksum8 (r : Ck8Reduce) (t : Nat) : Nat :=
  match r with
  | .fold => if t = 0 then 0 else (t - 1) % 255 + 1
  | .mod256 => t % 256

/-- The checksum-16 of an extended frame, 0 for a short one (R122, R123). -/
def frameCk16 (x : Bool) (frame : List Byte) : Nat := if x then byteSum (frame.drop 6) % 65536 else 0

/-- The legal frame lengths (R104, R105). -/
def LegalFrame (c : Config) (l : Nat) (x : Bool) : Prop := (if x then 6 else c.shortMinLen) ≤ l ∧ l ≤ c.maxFrame

/-- Frame byte `i` is one that CK.ENCODE reads and leaves: not byte 0, and not the checksum-16 of an extended frame
(R123). -/
def PayloadIndex (l : Nat) (x : Bool) (i : Nat) : Prop := 1 ≤ i ∧ i < l ∧ (x = true → i ≠ 4 ∧ i ≠ 5)

/-- Echo byte E_i of ARG0 (R102). -/
def echoNat (arg0 : Word) (i : Nat) : Nat := arg0.toNat / 256 ^ (i - 1) % 256

/-- A window offset that the layout reserves: outside every region, or beyond a region's parameter size, or the word
0x01C of the control region (R61). -/
def ReservedOffset (c : Config) (off : Nat) : Prop := regionOf c off = .reserved ∨ (0x1C ≤ off ∧ off < 0x20)

/-- Packet `k` of a byte sequence: bytes k*PKT to k*PKT + PKT - 1 (R190). -/
def packetAt (pkt : Nat) (bs : List Byte) (k : Nat) : List Byte := (bs.drop (k * pkt)).take pkt

/-- The first `n` packets of a byte sequence (R190). -/
def firstPackets (pkt n : Nat) (bs : List Byte) : List (List Byte) := (List.range n).map (packetAt pkt bs)

/-- The f64 that OUTVAL slot `k` gets from the emitted packets (R191 to R193): sample k mod SPP of packet k / SPP, by
the slot entry that round robin gives it. -/
def blockValue (s : State) (ps : List (List Byte)) (k : Nat) : F64 :=
  conv s (tableEntry s.acttab ((s.slot.toNat + k) % s.anch.toNat))
    (le16 (ps.getD (k / s.cfg.spp) []) (s.cfg.offSamples + 2 * (k % s.cfg.spp)))

/-- `t` is `s` after the packets `ps` were emitted with `dropped` garbage packets left out (R191, R194, R195), but for
RBUF and TRUNC: the results, RAWOUT, OUTVAL and SLOT, and nothing else. -/
def Emitted (ps : List (List Byte)) (dropped : Nat) (s t : State) : Prop :=
  t.code = .ok ∧
  t.res0 = BitVec.ofNat 32 (ps.length + dropped * 256) ∧
  t.res1 = BitVec.ofNat 32 ((ps.map fun p => (p.getD s.cfg.offErr 0).toNat).sum) ∧
  t.res2 = BitVec.ofNat 32 ((ps.getD 0 []).getD s.cfg.offCtr 0).toNat ∧
  t.res3 = BitVec.ofNat 32 (ps.length * s.cfg.spp) ∧
  t.slot.toNat = (s.slot.toNat + ps.length * s.cfg.spp) % s.anch.toNat ∧
  windowHolds t 0xC00 ps.flatten = true ∧
  (∀ k, k < ps.length * s.cfg.spp → windowHolds t (0x1000 + 8 * k) (leBytes 8 (blockValue s ps k).toNat) = true) ∧
  SameWindowExcept [(0xC00, ps.length * s.pktR.toNat), (0x1000, 8 * (ps.length * s.cfg.spp))] s t ∧
  t = { s with code := t.code, res0 := t.res0, res1 := t.res1, res2 := t.res2, res3 := t.res3, mem := t.mem,
               rbuf := t.rbuf, slot := t.slot, trunc := t.trunc, draws := t.draws }

/-- `t` is `s` after a PENDING read with `dropped` garbage packets (R197), but for RBUF and TRUNC. -/
def PendingAfter (dropped : Nat) (s t : State) : Prop :=
  t = { s with code := .pending, res0 := BitVec.ofNat 32 (dropped * 256), res1 := 0, res2 := 0, res3 := 0,
               rbuf := t.rbuf, trunc := t.trunc, draws := t.draws }

/-- Where a stream operation leaves STATE when it is valid in the current one; `none` is a STATE_ERROR cell of the
table (R180). -/
def streamTable : Instr → StreamState → Option StreamState
  | .stConfigure, .idle => some .configured
  | .stConfigure, .configured => some .configured
  | .stConfigure, .streaming => none
  | .stStart, .configured => some .streaming
  | .stStart, _ => none
  | .stNextblk .., .streaming => some .streaming
  | .stNextblk .., _ => none
  | .stStop, .streaming => some .configured
  | .stStop, _ => none
  | _, st => some st

/-- An operation of the codec (R131). -/
def IsCodecOp : Instr → Prop
  | .ckEncode .. | .ckDecode .. => True
  | _ => False

/-- A conversion (R162). -/
def IsCalOp : Instr → Prop
  | .cvAin .. | .cvTemp .. | .cvDac .. => True
  | _ => False

/-- A list of NEXTBLK operations on a state, each followed by the next, whatever their statuses (R204). -/
def nextblks : List (Nat × Bool) → State → Result
  | [], s => .next s
  | (m, f) :: ops, s =>
    match exec (.stNextblk m f) s with
    | .next t => nextblks ops t
    | r => r

/-- The 16-bit entry of slot `i` as the host sees it in CHTAB: the window bytes at 0x040 + 2*i and the offset after it,
little-endian (R35, R63). -/
def windowEntry (s : State) (i : Nat) : Nat :=
  ((windowByte s (0x40 + 2 * i)).getD 0).toNat + 256 * ((windowByte s (0x41 + 2 * i)).getD 0).toNat

/-- The channel list that ST.CONFIGURE accepts, with `n` slots (R181, R184); KIND is in bits [10:9] of an entry (R35). -/
def LegalChannels (s : State) (n : Nat) : Prop :=
  s.scfg.toNat / 2 % 32 = n ∧ s.scfg.toNat / 64 % 32 = n ∧ 1 ≤ n ∧ n ≤ s.cfg.maxCh ∧
  ∀ i, i < n → windowEntry s i / 512 % 4 ≠ 3

/-- The binary64 encoding of an infinity, with the sign bit `neg` (R150). -/
def infinity (neg : Bool) : F64 := if neg then 0xFFF0000000000000#64 else 0x7FF0000000000000#64

/-- The magnitude bits of an encoding: all but the sign, bit 63 (R150). -/
def magnitude (u : F64) : Nat := u.toNat % 2 ^ 63

end Sys2Proof.Machine

open Sys2Proof Sys2Proof.Machine

/-! ## Encoding -/

/-- R109, with the words of the spec's examples: each decodes to the operation it stands for. -/
def Obligations.DecodeReadsSpecWords : Prop :=
  decode 0x00000A11#32 = .op (.ckEncode 10 true) ∧ decode 0x00000A72#32 = .op (.ckDecode 10 true 3) ∧
  decode 0x00000003#32 = .op .stConfigure ∧ decode 0x00006405#32 = .op (.stNextblk 100 false) ∧
  decode 0xA0000C07#32 = .op (.cvAin 40960 0 12) ∧ decode 0x96000008#32 = .op (.cvTemp 38400) ∧
  decode 0x00000019#32 = .op (.cvDac 1) ∧ decode 0x0000000A#32 = .illegal .reservedOpcode ∧
  decode 0xA0002C07#32 = .illegal .reservedBit

/-- R101, R109: every operand of every operation survives encoding and decoding, at every value its field admits. -/
def Obligations.DecodeOfEncodeIsTheInstruction : Prop :=
  ∀ i : Instr, i.WellFormed → decode (encode i) = .op i

/-- R100: a legal word spells exactly one operation: it is that operation's word, and no other. -/
def Obligations.LegalWordIsItsEncoding : Prop :=
  ∀ (w : Word) (i : Instr), decode w = .op i → i.WellFormed ∧ encode i = w ∧ assemble i = some w

/-- R100: the mask and match of each row of the opcode table decide which operation a word spells. -/
def Obligations.MaskAndMatchDecideOperation : Prop :=
  ∀ (w : Word) (opc : Nat) (mask mtch : Word), (opc, mask, mtch) ∈ opcodeTable →
    (w &&& mask = mtch ↔ ∃ i, decode w = .op i ∧ opcodeOf i = opc)

/-- R98: writing a word with a reserved opcode to OP stores it and does only `raise ILLEGAL_OP`. -/
def Obligations.ReservedOpcodeRaisesIllegalOp : Prop :=
  ∀ (s : State) (w : Word) (rest : List BusEvent), s.cfg.legal = true → s.bus = .write 4 s.cfg.base w :: rest →
    (w.toNat % 16 = 0 ∨ 10 ≤ w.toNat % 16) →
    step s = .next { s with bus := rest, reply := .ack, op := w, code := .illegalOp }

/-- R99: a legal opcode with a bit that its row's mask fixes and its match does not allow does only `raise ILLEGAL_OP`,
in every STATE and before every other check. -/
def Obligations.ReservedBitRaisesIllegalOp : Prop :=
  ∀ (s : State) (w : Word) (rest : List BusEvent) (mask mtch : Word), s.cfg.legal = true →
    s.bus = .write 4 s.cfg.base w :: rest → (w.toNat % 16, mask, mtch) ∈ opcodeTable → w &&& mask ≠ mtch →
    step s = .next { s with bus := rest, reply := .ack, op := w, code := .illegalOp }

/-! ## The bus -/

/-- R23, R70: a step at a 32-bit write of a legal word to OP stores the word, acknowledges the write and performs the
operation it decodes to. -/
def Obligations.StepPerformsDecodedOperation : Prop :=
  ∀ (s : State) (w : Word) (rest : List BusEvent) (i : Instr), s.cfg.legal = true →
    s.bus = .write 4 s.cfg.base w :: rest → decode w = .op i →
    i.WellFormed ∧ step s = exec i { s with bus := rest, reply := .ack, op := w }

/-- R232 (with R66): an access that breaks the width, alignment or window rule is answered with a bus error and changes
nothing else. Widths and offsets are the access's own; an address below BASE is outside the window. -/
def Obligations.RefusedAccessIsABusError : Prop :=
  ∀ (s : State) (n addr : Nat) (v : Word) (rest : List BusEvent), s.cfg.legal = true →
    (s.bus = .read n addr :: rest ∨ s.bus = .write n addr v :: rest) →
    (addr < s.cfg.base ∨ (n ≠ 1 ∧ n ≠ 2 ∧ n ≠ 4) ∨ (addr - s.cfg.base) % n ≠ 0 ∨ 0x2000 < addr - s.cfg.base + n ∨
      (addr - s.cfg.base < 0x40 ∧ n ≠ 4)) →
    step s = .next { s with bus := rest, reply := .busError }

/-- R67: every permitted read is answered with data and changes nothing but the model's own bus fields. -/
def Obligations.ReadHasNoSideEffect : Prop :=
  ∀ (s : State) (n addr : Nat) (rest : List BusEvent), s.cfg.legal = true → s.bus = .read n addr :: rest →
    (∀ t, step s = .next t → t = { s with bus := rest, reply := t.reply, draws := t.draws }) ∧
    (∀ off, addr = s.cfg.base + off → (n = 1 ∨ n = 2 ∨ n = 4) → off % n = 0 → off + n ≤ 0x2000 →
      (off < 0x40 → n = 4) → ∃ t v, step s = .next t ∧ t.reply = .data v)

/-- R63, R65: a permitted read beyond the control region, of bytes that are all written, is answered with those bytes
assembled little-endian: the same bytes that 8-bit reads at the same offsets would see. -/
def Obligations.ReadAssemblesBytesLittleEndian : Prop :=
  ∀ (s : State) (off : Nat) (bs : List Byte) (rest : List BusEvent), s.cfg.legal = true →
    s.bus = .read bs.length (s.cfg.base + off) :: rest → (bs.length = 1 ∨ bs.length = 2 ∨ bs.length = 4) →
    off % bs.length = 0 → 0x40 ≤ off → off + bs.length ≤ 0x2000 → windowHolds s off bs = true →
    ∃ t, step s = .next t ∧
      t.reply = .data (BitVec.ofNat 32 (((List.range bs.length).map fun i => (bs.getD i 0).toNat * 256 ^ i).sum))

/-- R21 (ARG0, ARG1, RES0 to RES3), R23, R24, R27 to R34, R49: what each control register reads as. RLEN_R has 12 bits
(R32); its clause is about every state whose RBUF length they hold, which R8 makes every reachable one. -/
def Obligations.ControlRegistersReadTheirFields : Prop :=
  ∀ (s : State) (off : Nat) (v : Word) (rest : List BusEvent), s.cfg.legal = true →
    s.bus = .read 4 (s.cfg.base + off) :: rest → (off = 0x38 → s.rbuf.length < 2 ^ 12) →
    (off, v) ∈ [(0x00, s.op),
      (0x04, BitVec.ofNat 32 (s.code.number + 16 * s.stream.number + 64 * s.trunc.toNat)),
      (0x08, BitVec.ofNat 32 s.scfg.toNat), (0x0C, s.rate), (0x10, BitVec.ofNat 32 s.hiresSup.toNat),
      (0x14, s.arg0), (0x18, s.arg1), (0x1C, 0), (0x20, s.res0), (0x24, s.res1), (0x28, s.res2), (0x2C, s.res3),
      (0x30, BitVec.ofNat 32 s.pprR.toNat), (0x34, BitVec.ofNat 32 s.pktR.toNat),
      (0x38, BitVec.ofNat 32 s.rbuf.length), (0x3C, BitVec.ofNat 32 s.slot.toNat)] →
    step s = .next { s with bus := rest, reply := .data v }

/-- R21, R27 to R29, R49, R50: a host write to a control register other than OP writes the register's fields, ignores
the reserved bits, and a write to a read-only or reserved register changes no state. -/
def Obligations.ControlRegisterWrites : Prop :=
  ∀ (s : State) (off : Nat) (v : Word) (rest : List BusEvent), s.cfg.legal = true →
    s.bus = .write 4 (s.cfg.base + off) v :: rest → 0 < off → off < 0x40 → off % 4 = 0 →
    ∃ t, step s = .next t ∧ t.bus = rest ∧ t.reply = .ack ∧
      t = { s with bus := rest, reply := .ack,
                   scfg := if off = 0x08 then BitVec.ofNat 11 v.toNat else s.scfg
                   rate := if off = 0x0C then v else s.rate
                   hiresSup := if off = 0x10 then decide (v.toNat % 2 = 1) else s.hiresSup
                   arg0 := if off = 0x14 then v else s.arg0
                   arg1 := if off = 0x18 then v else s.arg1 }

/-- R35, R39, R41 to R44, R49, R50, R62, R65: a permitted host write beyond the control region stores byte i of the
value at offset i of the access: whole in FBUF, INBUF and CALRAM, without the reserved bits in CHTAB, and not at all in
RAWOUT, OUTVAL and reserved space. No other byte and nothing else changes. -/
def Obligations.HostWriteStoresItsBytes : Prop :=
  ∀ (s : State) (n off : Nat) (v : Word) (rest : List BusEvent), s.cfg.legal = true →
    s.bus = .write n (s.cfg.base + off) v :: rest → (n = 1 ∨ n = 2 ∨ n = 4) → off % n = 0 → 0x40 ≤ off →
    off + n ≤ 0x2000 →
    ∃ t, step s = .next t ∧
      t = { s with bus := rest, reply := .ack, chtab := t.chtab, calram := t.calram, mem := t.mem } ∧
      SameWindowExcept [(off, n)] s t ∧
      ∀ i, i < n →
        let b : Byte := BitVec.ofNat 8 (v.toNat / 256 ^ i)
        windowByte t (off + i) =
          match regionOf s.cfg (off + i) with
          | .fbuf | .inbuf | .calram => some b
          | .chtab => some (if (off + i) % 2 = 1 then BitVec.ofNat 8 (b.toNat % 8) else b)
          | _ => windowByte s (off + i)

/-- R62, with the reserved word of the control region (R61): in a permitted access, a reserved byte reads 0, a write to it
is ignored, and neither raises anything; a write to reserved bytes alone changes nothing. -/
def Obligations.ReservedBytesReadZeroAndIgnoreWrites : Prop :=
  ∀ (s : State) (n off i : Nat) (v : Word) (rest : List BusEvent), s.cfg.legal = true →
    (n = 1 ∨ n = 2 ∨ n = 4) → off % n = 0 → off + n ≤ 0x2000 → (off < 0x40 → n = 4) → i < n →
    ReservedOffset s.cfg (off + i) →
    windowByte s (off + i) = some 0 ∧
    (s.bus = .read n (s.cfg.base + off) :: rest → ∃ t d, step s = .next t ∧
      t = { s with bus := rest, reply := .data d, draws := t.draws } ∧ d.toNat / 256 ^ i % 256 = 0) ∧
    (s.bus = .write n (s.cfg.base + off) v :: rest → ∃ t, step s = .next t ∧ t.reply = .ack ∧ t.code = s.code ∧
      windowByte t (off + i) = some 0 ∧
      ((∀ j, j < n → ReservedOffset s.cfg (off + j)) → t = { s with bus := rest, reply := .ack }))

/-- R53, R55: what every piece of state holds after reset, for every legal configuration. -/
def Obligations.ResetLeavesTheStatedValues : Prop :=
  ∀ c : Config, c.legal = true →
    let s := State.resetOf c
    s.op = 0 ∧ statusWord s = 0 ∧ s.code = .ok ∧ s.stream = .idle ∧ s.trunc = false ∧ s.scfg = 0 ∧ s.rate = 0 ∧
    s.hiresSup = false ∧ s.arg0 = 0 ∧ s.arg1 = 0 ∧ s.res0 = 0 ∧ s.res1 = 0 ∧ s.res2 = 0 ∧ s.res3 = 0 ∧
    s.pprR = 0 ∧ s.pktR = 0 ∧ s.rbuf = [] ∧ s.slot = 0 ∧ s.atr = false ∧ s.anch = 0 ∧
    (∀ i, i < 16 → tableEntry s.acttab i = 0) ∧
    (∀ i, i < 32 → windowByte s (0x40 + i) = some 0) ∧
    (∀ i, i < 0x228 → (i < 0x200 + 16 * c.nDac ∨ 0x220 ≤ i) → windowByte s (0x100 + i) = c.nominal[i]?) ∧
    (∀ off, inByteWindow c off = true → windowByte s off = none)

/-- R260: a reset by the platform, in any state, puts every piece of architectural state at its reset value; what the
bus still holds, and the draws already made, are the model's own. -/
def Obligations.PlatformResetRestoresResetState : Prop :=
  ∀ (s : State) (rest : List BusEvent), s.cfg.legal = true → s.bus = .reset :: rest →
    step s = .next { State.resetOf s.cfg with bus := rest, draws := s.draws }

/-- R235: the block never stops accepting operations: with a legal configuration, every event, whatever it is, is
followed by a next state. -/
def Obligations.BlockNeverStops : Prop :=
  (∀ s : State, s.cfg.legal = true → ∃ t, step s = .next t ∧ t.bus = s.bus.tail ∧ t.cfg = s.cfg) ∧
  ∀ s : State, Reachable s → Safe s

/-- R260, C6: only a reset returns STATE to IDLE. -/
def Obligations.OnlyResetReturnsToIdle : Prop :=
  ∀ s t : State, s.stream ≠ .idle → s.bus.head? ≠ some .reset → step s = .next t → t.stream ≠ .idle

/-! ## CODEC -/

/-- R121: under FOLD the checksum-8 of a sum below 65536 is 0 exactly for a zero sum, and otherwise the sum's residue in
1 to 255. -/
def Obligations.FoldedChecksumIsAResidue : Prop :=
  ∀ t : Nat, t < 65536 →
    reduce8 .fold t ≤ 255 ∧ (reduce8 .fold t = 0 ↔ t = 0) ∧ (0 < t → reduce8 .fold t = (t - 1) % 255 + 1) ∧
    reduce8 .fold t % 255 = t % 255 ∧ t / 256 % 256 = t / 256

/-- R120 to R124: on a frame whose bytes are written, CK.ENCODE completes with the checksum-16 of the payload in bytes 4
and 5 (extended frames only), then the checksum-8 of all later bytes, those two included, in byte 0; RES0 holds both,
and nothing else changes. -/
def Obligations.CkEncodeInsertsTheChecksums : Prop :=
  ∀ (s : State) (l : Nat) (x : Bool) (frame : List Byte), s.cfg.legal = true → LegalFrame s.cfg l x →
    frame.length = l → (∀ i, PayloadIndex l x i → windowByte s (0x400 + i) = frame[i]?) →
    let c16 := frameCk16 x frame
    let frame1 := if x then (frame.set 4 (BitVec.ofNat 8 c16)).set 5 (BitVec.ofNat 8 (c16 / 256)) else frame
    let c8 := checksum8 s.cfg.ck8Reduce (byteSum (frame1.drop 1))
    ∃ t, exec (.ckEncode l x) s = .next t ∧ t.code = .ok ∧ t.res0 = BitVec.ofNat 32 (c8 + c16 * 65536) ∧
      windowHolds t 0x400 ((frame1.set 0 (BitVec.ofNat 8 c8)).take 1) = true ∧
      (∀ i, PayloadIndex l x i → windowByte t (0x400 + i) = frame[i]?) ∧
      (x = true → windowHolds t 0x404 [BitVec.ofNat 8 c16, BitVec.ofNat 8 (c16 / 256)] = true) ∧
      SameWindowExcept [(0x400, 1), (0x404, if x then 2 else 0)] s t ∧
      t = { s with code := t.code, res0 := t.res0, mem := t.mem, draws := t.draws }

/-- R123, R52: CK.ENCODE completes on every frame of legal length, its bytes written or not: byte 0 gets some checksum-8,
bytes 4 and 5 of an extended frame some checksum-16, RES0 the same two, and nothing else changes. -/
def Obligations.CkEncodeCompletes : Prop :=
  ∀ (s : State) (l : Nat) (x : Bool), s.cfg.legal = true → LegalFrame s.cfg l x →
    ∃ t c8 c16, exec (.ckEncode l x) s = .next t ∧ c8 < 256 ∧ c16 < 65536 ∧ (x = false → c16 = 0) ∧
      t.code = .ok ∧ t.res0 = BitVec.ofNat 32 (c8 + c16 * 65536) ∧
      windowByte t 0x400 = some (BitVec.ofNat 8 c8) ∧
      (x = true → windowHolds t 0x404 [BitVec.ofNat 8 c16, BitVec.ofNat 8 (c16 / 256)] = true) ∧
      SameWindowExcept [(0x400, 1), (0x404, if x then 2 else 0)] s t ∧
      t = { s with code := t.code, res0 := t.res0, mem := t.mem, draws := t.draws }

/-- R123: a frame length outside the legal range raises BAD_OPERAND and changes nothing else. -/
def Obligations.CkEncodeRefusesIllegalLength : Prop :=
  ∀ (s : State) (l : Nat) (x : Bool), ¬ LegalFrame s.cfg l x →
    exec (.ckEncode l x) s = .next { s with code := .badOperand }

/-- R125, R126: on a written frame with legal operands and the expected length, CK.DECODE completes: RES0 holds the
recomputed and RES1 the stored checksums, the checksums are judged first, then the first differing echo byte, whose
index goes to RES2. -/
def Obligations.CkDecodeJudgesTheFrame : Prop :=
  ∀ (s : State) (l : Nat) (x : Bool) (k : Nat) (frame : List Byte), s.cfg.legal = true → LegalFrame s.cfg l x →
    1 ≤ k → k ≤ 3 → k < l → s.arg1.toNat % 65536 = l → frame.length = l → windowHolds s 0x400 frame = true →
    let c8 := checksum8 s.cfg.ck8Reduce (byteSum (frame.drop 1))
    let c16 := frameCk16 x frame
    let s8 := (frame.getD 0 0).toNat
    let s16 := if x then (frame.getD 4 0).toNat + 256 * (frame.getD 5 0).toNat else 0
    let differs := fun i => (frame.getD i 0).toNat ≠ echoNat s.arg0 i
    ∃ t, exec (.ckDecode l x k) s = .next t ∧
      t = { s with code := t.code, res0 := BitVec.ofNat 32 (c8 + c16 * 65536),
                   res1 := BitVec.ofNat 32 (s8 + s16 * 65536), res2 := t.res2, draws := t.draws } ∧
      ((c8 ≠ s8 ∨ c16 ≠ s16) → t.code = .checksumError ∧ t.res2 = 0) ∧
      (c8 = s8 → c16 = s16 → (∀ i, 1 ≤ i → i ≤ k → ¬ differs i) → t.code = .ok ∧ t.res2 = 0) ∧
      (c8 = s8 → c16 = s16 → ∀ i, 1 ≤ i → i ≤ k → differs i → (∀ j, 1 ≤ j → j < i → ¬ differs j) →
        t.code = .echoMismatch ∧ t.res2 = BitVec.ofNat 32 i)

/-- R125, R126: CK.DECODE checks its operands first, then the received length; either failure changes nothing but the
status. -/
def Obligations.CkDecodeRefusesOperandsThenLength : Prop :=
  ∀ (s : State) (l : Nat) (x : Bool) (k : Nat),
    ((¬ LegalFrame s.cfg l x ∨ k = 0 ∨ l ≤ k) → exec (.ckDecode l x k) s = .next { s with code := .badOperand }) ∧
    (LegalFrame s.cfg l x → 1 ≤ k → k < l → s.arg1.toNat % 65536 ≠ l →
      exec (.ckDecode l x k) s = .next { s with code := .lengthMismatch })

/-- R125, R52: CK.DECODE completes on every frame with legal operands and the expected length, its bytes written or not,
and writes no more than STATUS.CODE and RES0 to RES2. -/
def Obligations.CkDecodeCompletes : Prop :=
  ∀ (s : State) (l : Nat) (x : Bool) (k : Nat), s.cfg.legal = true → LegalFrame s.cfg l x → 1 ≤ k → k < l →
    s.arg1.toNat % 65536 = l →
    ∃ t, exec (.ckDecode l x k) s = .next t ∧
      (t.code = .ok ∨ t.code = .checksumError ∨ t.code = .echoMismatch) ∧
      (t.code ≠ .echoMismatch → t.res2 = 0) ∧ (t.code = .echoMismatch → 1 ≤ t.res2.toNat ∧ t.res2.toNat ≤ k) ∧
      t = { s with code := t.code, res0 := t.res0, res1 := t.res1, res2 := t.res2, draws := t.draws }

/-- R127: a frame of legal length that CK.ENCODE completes, echoed with its own identifying bytes and received with its
own length, decodes OK, and the identifying bytes and the payload are exactly those placed. -/
def Obligations.EncodeThenDecodeRoundTrips : Prop :=
  ∀ (s : State) (l : Nat) (x : Bool) (k : Nat) (a0 a1 : Word), s.cfg.legal = true → LegalFrame s.cfg l x →
    (∀ i, PayloadIndex l x i → (windowByte s (0x400 + i)).isSome = true) →
    1 ≤ k → k ≤ 3 → k < l → a1.toNat % 65536 = l →
    (∀ i, 1 ≤ i → i ≤ k → windowByte s (0x400 + i) = some (BitVec.ofNat 8 (echoNat a0 i))) →
    ∃ t u, exec (.ckEncode l x) s = .next t ∧ t.code = .ok ∧
      exec (.ckDecode l x k) { t with arg0 := a0, arg1 := a1 } = .next u ∧ u.code = .ok ∧
      ∀ i, PayloadIndex l x i → windowByte u (0x400 + i) = windowByte s (0x400 + i)

/-- R128: after CK.ENCODE finishes OK, the host inverts exactly one bit of one byte of the frame; a following CK.DECODE
with the right length then finishes CHECKSUM_ERROR, under either CK8_REDUCE and whatever the expected echo. -/
def Obligations.SingleBitCorruptionIsDetected : Prop :=
  ∀ (s t : State) (l : Nat) (x : Bool) (k j bit : Nat) (b : Byte) (a0 a1 : Word), s.cfg.legal = true →
    (∀ i, PayloadIndex l x i → (windowByte s (0x400 + i)).isSome = true) →
    exec (.ckEncode l x) s = .next t → t.code = .ok → j < l → bit < 8 → windowByte t (0x400 + j) = some b →
    1 ≤ k → k < l → a1.toNat % 65536 = l →
    ∃ u, exec (.ckDecode l x k)
        { putByte t (0x400 + j) (b ^^^ BitVec.twoPow 8 bit) with arg0 := a0, arg1 := a1 } = .next u ∧
      u.code = .checksumError

/-! ## CAL -/

/-- R152 to R154: CV.AIN completes, in every STATE and for every constant, with RAW times the selected slope plus the
selected offset, a rounded multiply and then a rounded add, in RES1 and RES0. -/
def Obligations.CvAinAppliesTheSelectedPair : Prop :=
  ∀ (s : State) (raw g res : Nat) (slope offset : F64), raw < 65536 → g < 16 → res < 32 →
    let set := if s.hiresSup = true ∧ s.cfg.hiresThreshold < res then 1 else 0
    windowHolds s (0x100 + 0x100 * set + 16 * g) (leBytes 8 slope.toNat) = true →
    windowHolds s (0x108 + 0x100 * set + 16 * g) (leBytes 8 offset.toNat) = true →
    let v := fadd (fmul (cvt raw) slope) offset
    exec (.cvAin raw g res) s =
      .next { s with code := .ok, res0 := BitVec.ofNat 32 v.toNat, res1 := BitVec.ofNat 32 (v.toNat / 2 ^ 32) }

/-- R155, R156: CV.TEMP completes with RAW times TEMP_SLOPE, and no offset, in RES1 and RES0. -/
def Obligations.CvTempScalesByTempSlope : Prop :=
  ∀ (s : State) (raw : Nat) (slope : F64), raw < 65536 → windowHolds s 0x320 (leBytes 8 slope.toNat) = true →
    let v := fmul (cvt raw) slope
    exec (.cvTemp raw) s =
      .next { s with code := .ok, res0 := BitVec.ofNat 32 v.toNat, res1 := BitVec.ofNat 32 (v.toNat / 2 ^ 32) }

/-- CV.DAC by R157 and R158, whose clamp and truncation the spec marks "[from general knowledge, not in source]" and which
the model takes over (PRESUMED, log 11): CV.DAC completes with the transformed voltage t clamped to 0 .. 2^DAC_BITS - 1 and truncated in RES0, and
the clamp indicator in RES1; a DAC that is absent raises BAD_OPERAND and changes nothing else. -/
def Obligations.CvDacClampsAndTruncates : Prop :=
  ∀ (s : State) (d : Nat),
    (s.cfg.nDac ≤ d → exec (.cvDac d) s = .next { s with code := .badOperand }) ∧
    ∀ slope offset : F64, d < s.cfg.nDac → s.cfg.nDac ≤ 2 →
      windowHolds s (0x300 + 16 * d) (leBytes 8 slope.toNat) = true →
      windowHolds s (0x308 + 16 * d) (leBytes 8 offset.toNat) = true →
      let t := fadd (fmul (BitVec.ofNat 64 (s.arg1.toNat * 2 ^ 32 + s.arg0.toNat)) slope) offset
      let maxc : Nat := 2 ^ s.cfg.dacBits - 1
      ∃ code clamp : Nat, exec (.cvDac d) s =
          .next { s with code := .ok, res0 := BitVec.ofNat 32 code, res1 := BitVec.ofNat 32 clamp } ∧
        (unpack t = .nan → code = 0 ∧ clamp = 1) ∧ (unpack t = .inf true → code = 0 ∧ clamp = 1) ∧
        (unpack t = .inf false → code = maxc ∧ clamp = 2) ∧
        ∀ q, floatRat t = some q →
          (q < 0 → code = 0 ∧ clamp = 1) ∧ (q = 0 → code = 0 ∧ clamp = 0) ∧
          (0 < q → q < maxc → (code : Int) = ⌊q⌋ ∧ clamp = 0) ∧ (q = maxc → code = maxc ∧ clamp = 0) ∧
          ((maxc : ℚ) < q → code = maxc ∧ clamp = 2)

/-- R150: the product of two finite values is the exact product, correctly rounded once, to nearest, ties to even, with the
exact product's sign also where it underflows to zero. -/
def Obligations.MultiplyRoundsToNearestEven : Prop :=
  ∀ (a b : F64) (qa qb : ℚ), floatRat a = some qa → floatRat b = some qb → RoundsTo (qa * qb) (fmul a b)

/-- R150: the sum of two finite values is the exact sum, correctly rounded once, to nearest, ties to even. -/
def Obligations.AddRoundsToNearestEven : Prop :=
  ∀ (a b : F64) (qa qb : ℚ), floatRat a = some qa → floatRat b = some qb → RoundsTo (qa + qb) (fadd a b)

/-- R151: a NaN result of fmul or fadd, from a NaN input or from an invalid operation, is the canonical quiet NaN. -/
def Obligations.NaNResultsAreCanonical : Prop :=
  (∀ a b : F64, (unpack (fmul a b) = .nan → fmul a b = 0x7FF8000000000000#64) ∧
    (unpack (fadd a b) = .nan → fadd a b = 0x7FF8000000000000#64)) ∧
  (∀ a b : F64, (unpack a = .nan ∨ unpack b = .nan) →
    fmul a b = 0x7FF8000000000000#64 ∧ fadd a b = 0x7FF8000000000000#64) ∧
  (∀ (a b : F64) (n : Bool), floatRat a = some 0 → unpack b = .inf n →
    fmul a b = 0x7FF8000000000000#64 ∧ fmul b a = 0x7FF8000000000000#64) ∧
  (∀ (a b : F64) (n : Bool), unpack a = .inf n → unpack b = .inf (!n) → fadd a b = 0x7FF8000000000000#64)

/-- R150: signed zeros: a zero product has the sign of its factors' product, and an exact zero sum is +0 unless both
addends are negative zeros. -/
def Obligations.ZeroResultsHaveIeeeSigns : Prop :=
  (∀ (a b : F64) (qa qb : ℚ), floatRat a = some qa → floatRat b = some qb → qa * qb = 0 →
    fmul a b = if a.getLsbD 63 = b.getLsbD 63 then 0#64 else 0x8000000000000000#64) ∧
  (∀ (a b : F64) (qa qb : ℚ), floatRat a = some qa → floatRat b = some qb → qa + qb = 0 →
    fadd a b = if a = 0x8000000000000000#64 ∧ b = 0x8000000000000000#64 then 0x8000000000000000#64 else 0#64)

/-- R150 ("the IEEE 754 multiply and add", R154: "A NaN or infinite constant gives the IEEE result"): an infinity times a
value that is neither zero nor NaN is the infinity with the sign of the product of their signs, in either order; an
infinity plus a finite value, in either order, is that infinity, and so is the sum of two infinities of one sign. -/
def Obligations.InfiniteOperandsFollowIeee : Prop :=
  ∀ neg : Bool,
    (∀ b : F64, magnitude b ≠ 0 → magnitude b ≤ magnitude (infinity false) →
      fmul (infinity neg) b = infinity (neg ^^ b.getLsbD 63) ∧ fmul b (infinity neg) = infinity (neg ^^ b.getLsbD 63)) ∧
    (∀ b : F64, magnitude b < magnitude (infinity false) →
      fadd (infinity neg) b = infinity neg ∧ fadd b (infinity neg) = infinity neg) ∧
    fadd (infinity neg) (infinity neg) = infinity neg

/-- R10, R150: cvt(n) is the f64 equal to n, exact for n < 2^53, and so for every u16; its sign bit is 0, that of cvt(0)
too. -/
def Obligations.ConversionFromNaturalsIsExact : Prop :=
  ∀ n : Nat, n < 2 ^ 53 → floatRat (cvt n) = some (n : ℚ) ∧ (cvt n).getLsbD 63 = false

/-! ## REASM -/

/-- R181 to R183: outside STREAMING, ST.CONFIGURE completes on a legal channel list: it latches the transport, the slot
count and the slot entries that the window shows in CHTAB (R35, R63), the packets per read for the requested rate and
the packet size of the transport, empties RBUF, SLOT and TRUNC, and enters CONFIGURED. -/
def Obligations.StConfigureLatchesTheConfiguration : Prop :=
  ∀ (s : State) (n : Nat), s.cfg.legal = true → s.stream ≠ .streaming → LegalChannels s n →
    ∃ t, exec .stConfigure s = .next t ∧
      t = { s with code := .ok, stream := .configured, trunc := false, rbuf := [], slot := 0,
                   atr := s.scfg.getLsbD 0, anch := BitVec.ofNat 5 n,
                   acttab := t.acttab, pprR := t.pprR, pktR := t.pktR } ∧
      t.anch.toNat = n ∧
      t.pprR.toNat = (if s.cfg.rateThreshold ≤ s.rate.toNat then s.cfg.pprHi else s.cfg.pprLo) ∧
      t.pktR.toNat = (if t.atr then s.cfg.pktLocal + s.cfg.netTrailer else s.cfg.pktLocal) ∧
      ∀ i, i < 16 → (tableEntry t.acttab i).toNat = if i < n then windowEntry s i else 0

/-- R184: outside STREAMING, ST.CONFIGURE fails with CONFIG_ERROR, and changes nothing else, for unequal list lengths, a
length of 0 or above MAX_CH, or a reserved KIND in a configured slot. -/
def Obligations.StConfigureRefusesIllegalChannels : Prop :=
  ∀ s : State, s.stream ≠ .streaming → (∀ n, ¬ LegalChannels s n) →
    exec .stConfigure s = .next { s with code := .configError }

/-- R180: STATE moves only as the table says. In a STATE_ERROR cell the operation raises STATE_ERROR and changes nothing
else; in any other cell it does not raise STATE_ERROR and leaves STATE where the cell says, unless it is a CONFIGURE
that raises CONFIG_ERROR and stays. -/
def Obligations.StateMovesOnlyAsTheTableSays : Prop :=
  ∀ (i : Instr) (s : State),
    match streamTable i s.stream with
    | none => exec i s = .next { s with code := .stateError }
    | some st => ∃ t, exec i s = .next t ∧ t.code ≠ .stateError ∧
        (t.stream = st ∨ (i = .stConfigure ∧ t.code = .configError ∧ t.stream = s.stream))

/-- R185, R186, R202: from CONFIGURED, ST.START completes in STREAMING with RBUF empty, SLOT 0 and TRUNC clear; from
STREAMING, ST.STOP completes in CONFIGURED with RBUF empty and SLOT 0, and keeps TRUNC. The latched configuration stays. -/
def Obligations.StartAndStopEmptyTheBuffer : Prop :=
  (∀ s : State, s.stream = .configured →
    exec .stStart s = .next { s with code := .ok, stream := .streaming, trunc := false, rbuf := [], slot := 0 }) ∧
  (∀ s : State, s.stream = .streaming →
    exec .stStop s = .next { s with code := .ok, stream := .configured, rbuf := [], slot := 0 })

/-- R196: a packet is garbage exactly when its empty marker has the marker value and all its sample bytes are 0. -/
def Obligations.GarbageIsMarkedAndAllZero : Prop :=
  ∀ (c : Config) (p : List Byte), c.legal = true → p.length = c.pktLocal →
    (garbage c p = true ↔
      p[c.offEmpty]? = some c.emptyVal ∧ ∀ i, i < 2 * c.spp → p[c.offSamples + i]? = some 0)

/-- R193: a sample is converted by its slot entry's KIND: AIN with the entry's G and RES for ANALOG, unconverted for RAW,
TEMP for TEMP. -/
def Obligations.SampleConversionFollowsKind : Prop :=
  ∀ (s : State) (e : SlotEntry) (raw : Nat),
    (e.toNat / 512 = 0 → conv s e raw = ain s raw (e.toNat % 16) (e.toNat / 16 % 32)) ∧
    (e.toNat / 512 = 1 → conv s e raw = cvt raw) ∧
    (e.toNat / 512 = 2 → conv s e raw = temp s raw)

/-- R187, R188, R191 to R197: on the local path, ST.NEXTBLK completes on M written bytes, M at most INBUF_SIZE and
PPR*PKT: it cuts them into whole packets, drops the garbage ones, and emits the rest as one block, or reports PENDING
when none is left; a trailing partial packet is discarded and sets TRUNC. -/
def Obligations.NextblkLocalEmitsUsablePackets : Prop :=
  ∀ (s : State) (f : Bool) (input : List Byte), s.Inv → s.stream = .streaming → s.atr = false →
    input.length ≤ s.cfg.inbufSize → input.length ≤ s.pprR.toNat * s.pktR.toNat →
    windowHolds s 0x800 input = true →
    let n := input.length / s.pktR.toNat
    let usable := (firstPackets s.pktR.toNat n input).filter fun p => !garbage s.cfg p
    ∃ t, exec (.stNextblk input.length f) s = .next t ∧ t.rbuf = [] ∧
      t.trunc = (s.trunc || decide (input.length % s.pktR.toNat ≠ 0)) ∧
      (usable = [] → PendingAfter n s t) ∧ (usable ≠ [] → Emitted usable (n - usable.length) s t)

/-- R187, R189 to R195, R197, R200: on the network path, ST.NEXTBLK completes on M written bytes that RBUF can take: it
appends them, emits a full batch of PPR packets, or on a flush every whole packet held, or reports PENDING; the bytes
it does not emit stay in RBUF. -/
def Obligations.NextblkNetReassemblesPackets : Prop :=
  ∀ (s : State) (f : Bool) (input : List Byte), s.Inv → s.stream = .streaming → s.atr = true →
    input.length ≤ s.cfg.inbufSize → s.rbuf.length + input.length ≤ s.cfg.rbufCap →
    windowHolds s 0x800 input = true →
    let pkt := s.pktR.toNat
    let buf := s.rbuf ++ input
    let n := if s.pprR.toNat * pkt ≤ buf.length then s.pprR.toNat else if f then buf.length / pkt else 0
    ∃ t, exec (.stNextblk input.length f) s = .next t ∧ t.trunc = s.trunc ∧ t.rbuf = buf.drop (n * pkt) ∧
      (n = 0 → PendingAfter 0 s t) ∧ (n ≠ 0 → Emitted (firstPackets pkt n buf) 0 s t)

/-- R187, R188, R234: in STREAMING, an M above INBUF_SIZE, and on the local path an M above PPR*PKT, raises BAD_OPERAND
and changes nothing else. -/
def Obligations.NextblkRefusesLongReads : Prop :=
  ∀ (s : State) (m : Nat) (f : Bool), s.stream = .streaming →
    (s.cfg.inbufSize < m ∨ (s.atr = false ∧ s.pprR.toNat * s.pktR.toNat < m)) →
    exec (.stNextblk m f) s = .next { s with code := .badOperand }

/-- R199: OVERFLOW changes nothing but STATUS.CODE, and cannot persist: a following NEXTBLK with M = 0 emits a full batch
and shrinks RBUF by PPR*PKT. -/
def Obligations.OverflowIsRecoverable : Prop :=
  ∀ (s : State) (m : Nat) (f f' : Bool), s.Inv → s.stream = .streaming → s.atr = true → m ≤ s.cfg.inbufSize →
    s.cfg.rbufCap < s.rbuf.length + m →
    exec (.stNextblk m f) s = .next { s with code := .overflow } ∧
    ∃ u, exec (.stNextblk 0 f') { s with code := .overflow } = .next u ∧ u.code = .ok ∧
      u.res0 = BitVec.ofNat 32 s.pprR.toNat ∧ u.rbuf.length + s.pprR.toNat * s.pktR.toNat = s.rbuf.length

/-- R198: with M = 0, and on the network path with F = 0 and less than a full batch held, ST.NEXTBLK finishes PENDING
and leaves RBUF, SLOT, RAWOUT and OUTVAL unchanged; with a full batch held it emits one. -/
def Obligations.ZeroByteReadIsPendingUnlessABatchIsHeld : Prop :=
  ∀ (s : State) (f : Bool), s.Inv → s.stream = .streaming →
    ((s.atr = true → f = false ∧ s.rbuf.length < s.pprR.toNat * s.pktR.toNat) →
      ∃ t, exec (.stNextblk 0 f) s = .next t ∧
        t = { s with code := .pending, res0 := 0, res1 := 0, res2 := 0, res3 := 0, draws := t.draws }) ∧
    (s.atr = true → s.pprR.toNat * s.pktR.toNat ≤ s.rbuf.length →
      ∃ t, exec (.stNextblk 0 f) s = .next t ∧ t.code = .ok ∧ t.res0 = BitVec.ofNat 32 s.pprR.toNat ∧
        t.rbuf = s.rbuf.drop (s.pprR.toNat * s.pktR.toNat))

/-- R187, R201, R52: in STREAMING, ST.NEXTBLK completes with OK or PENDING on every M it can take, the bytes of INBUF
written or not; it writes no more than STATUS, the results, RAWOUT, OUTVAL, RBUF and SLOT. -/
def Obligations.NextblkCompletes : Prop :=
  ∀ (s : State) (m : Nat) (f : Bool), s.Inv → s.stream = .streaming → m ≤ s.cfg.inbufSize →
    (s.atr = false → m ≤ s.pprR.toNat * s.pktR.toNat) → (s.atr = true → s.rbuf.length + m ≤ s.cfg.rbufCap) →
    ∃ t, exec (.stNextblk m f) s = .next t ∧ (t.code = .ok ∨ t.code = .pending) ∧
      t = { s with code := t.code, trunc := t.trunc, res0 := t.res0, res1 := t.res1, res2 := t.res2, res3 := t.res3,
                   mem := t.mem, rbuf := t.rbuf, slot := t.slot, draws := t.draws } ∧
      SameWindowExcept [(0xC00, 0x400), (0x1000, 0x400)] s t ∧ (t.code = .pending → t.mem = s.mem ∧ t.slot = s.slot)

/-- R203, R190: a network stream delivered in reads of any sizes, with no error, comes out of the successive OK blocks in
order, in whole packets, each starting at a multiple of PKT; what has not come out is in RBUF. -/
def Obligations.ReassemblyKeepsTheByteStream : Prop :=
  ∀ (s t : State) (reads : List (List Byte × Bool)) (out : List Byte), s.Inv → s.stream = .streaming → s.atr = true →
    s.rbuf = [] → (∀ r ∈ reads, r.1.length ≤ s.cfg.inbufSize) → deliverAll reads s = some (t, out) →
    ∃ q, out.length = q * s.pktR.toNat ∧ out ++ t.rbuf = (reads.map Prod.fst).flatten

/-- R204: after any number of NEXTBLK operations and a STOP, START finishes OK without a new CONFIGURE, with the same
latched configuration and SLOT back at 0. -/
def Obligations.RestartKeepsTheConfiguration : Prop :=
  ∀ (s : State) (ops : List (Nat × Bool)), s.stream = .configured →
    ∃ s1 s2 s3 s4, exec .stStart s = .next s1 ∧ nextblks ops s1 = .next s2 ∧ exec .stStop s2 = .next s3 ∧
      exec .stStart s3 = .next s4 ∧ s1.code = .ok ∧ s3.code = .ok ∧ s4.code = .ok ∧ s4.stream = .streaming ∧
      s4.rbuf = [] ∧ s4.slot = 0 ∧ s4.atr = s.atr ∧ s4.anch = s.anch ∧ s4.acttab = s.acttab ∧ s4.pprR = s.pprR ∧
      s4.pktR = s.pktR

/-! ## The whole machine -/

/-- R131: the codec operations are allowed in every STATE, and neither read nor write STATE, RBUF or SLOT. -/
def Obligations.CodecIgnoresTheStream : Prop :=
  ∀ (i : Instr) (s : State) (st : StreamState) (rb : List Byte) (sl : BitVec 4), IsCodecOp i →
    ∃ t, exec i s = .next t ∧ t.code ≠ .stateError ∧ t.stream = s.stream ∧ t.rbuf = s.rbuf ∧ t.slot = s.slot ∧
      exec i { s with stream := st, rbuf := rb, slot := sl } = .next { t with stream := st, rbuf := rb, slot := sl }

/-- R162: the conversions are allowed in every STATE, and neither read nor write STATE, RBUF, SLOT, FBUF or INBUF (nor
RAWOUT or OUTVAL). -/
def Obligations.ConversionsIgnoreTheStreamAndBuffers : Prop :=
  ∀ (i : Instr) (s : State) (st : StreamState) (rb : List Byte) (sl : BitVec 4) (m : Memory), IsCalOp i →
    ∃ t, exec i s = .next t ∧ t.code ≠ .stateError ∧ t.stream = s.stream ∧ t.rbuf = s.rbuf ∧ t.slot = s.slot ∧
      t.mem = s.mem ∧
      exec i { s with stream := st, rbuf := rb, slot := sl, mem := m } =
        .next { t with stream := st, rbuf := rb, slot := sl, mem := m }

/-- R267: SCFG, RATE and CHTAB take effect only at the next ST.CONFIGURE: no other operation reads or writes them. -/
def Obligations.ConfigurationRegistersActOnlyAtConfigure : Prop :=
  ∀ (i : Instr) (s : State) (sc : BitVec 11) (r : Word) (tab : Vector SlotEntry 16), i ≠ .stConfigure →
    ∃ t, exec i s = .next t ∧
      exec i { s with scfg := sc, rate := r, chtab := tab } = .next { t with scfg := sc, rate := r, chtab := tab }

/-- R48, R26: no operation's behaviour depends on STATUS.CODE or STATUS.TRUNC: from states that differ only there, every
operation ends with the same code and in states that differ at most in TRUNC. -/
def Obligations.FlagsAreNeverRead : Prop :=
  ∀ (i : Instr) (s : State) (c : Code) (b : Bool), ∃ t b', exec i s = .next t ∧
    exec i { s with code := c, trunc := b } = .next { t with trunc := b' }

/-- R73, R21, R39, R69: no operation writes the operand registers, the configuration registers, CHTAB, CALRAM, INBUF, or
FBUF other than bytes 0, 4 and 5. -/
def Obligations.OperationsKeepTheirOperands : Prop :=
  ∀ (i : Instr) (s t : State), exec i s = .next t →
    t.cfg = s.cfg ∧ t.op = s.op ∧ t.scfg = s.scfg ∧ t.rate = s.rate ∧ t.hiresSup = s.hiresSup ∧ t.arg0 = s.arg0 ∧
    t.arg1 = s.arg1 ∧ t.chtab = s.chtab ∧ t.calram = s.calram ∧ t.bus = s.bus ∧ t.reply = s.reply ∧
    SameWindowExcept [(0x400, 1), (0x404, 2), (0xC00, 0x400), (0x1000, 0x400)] s t

/-- R12, R231: a raised status changes nothing but STATUS.CODE. -/
def Obligations.RaisedStatusChangesNothingElse : Prop :=
  ∀ (i : Instr) (s t : State), exec i s = .next t →
    t.code ∈ [.lengthMismatch, .stateError, .configError, .badOperand, .illegalOp, .overflow] →
    t = { s with code := t.code } ∧ t.code ≠ .illegalOp

/-- R26: TRUNC is sticky: only a local read with a trailing partial packet sets it, and only a START or CONFIGURE that
finishes OK clears it. -/
def Obligations.TruncIsSticky : Prop :=
  ∀ (i : Instr) (s t : State), exec i s = .next t →
    (s.trunc = false → t.trunc = true → ∃ m f, i = .stNextblk m f ∧ s.atr = false ∧ m % s.pktR.toNat ≠ 0) ∧
    (s.trunc = true → t.trunc = false → (i = .stStart ∨ i = .stConfigure) ∧ t.code = .ok)

/-- The invariant of the block (R25, R30, R31, R35, R37, R45 to R47, R51, R61) is kept by every step, whatever the event:
a legal configuration, canonical memory that lists only bytes that exist, reserved table entries at 0, a latched
configuration that CONFIGURE can latch, and a bounded leftover that is empty where it must be. -/
def Obligations.EveryStepKeepsTheInvariant : Prop :=
  ∀ s t : State, s.Inv → step s = .next t → t.Inv

/-- The invariant holds at reset, for every legal configuration, and so for the machine's own. -/
def Obligations.ResetMeetsTheInvariant : Prop :=
  (∀ c : Config, c.legal = true → (State.resetOf c).Inv) ∧ State.reset.Inv

/-- R47: in every reachable state with STATE other than STREAMING, RBUF is empty and SLOT = 0. -/
def Obligations.LeftoverIsEmptyOutsideStreaming : Prop :=
  ∀ s : State, Reachable s → s.stream ≠ .streaming → s.rbuf = [] ∧ s.slot = 0
end

