-- ==== Sys2Proof/Laws/State.lean ====
section
/-! SUPPORT. One lemma per field per named update of State: what the update leaves, and what it writes. Two updates of
more than one field that are built from these (`State.store`, `State.setResFloat`) have theirs in Laws/Ops.lean. -/

namespace Sys2Proof.Machine

/-! ### `State.setCode` -/

@[simp] theorem State.setCode_code (s : State) (c : Code) : (s.setCode c).code = c := rfl
@[simp] theorem State.setCode_draws (s : State) (c : Code) : (s.setCode c).draws = s.draws := rfl
@[simp] theorem State.setCode_res0 (s : State) (c : Code) : (s.setCode c).res0 = s.res0 := rfl
@[simp] theorem State.setCode_res1 (s : State) (c : Code) : (s.setCode c).res1 = s.res1 := rfl
@[simp] theorem State.setCode_res2 (s : State) (c : Code) : (s.setCode c).res2 = s.res2 := rfl
@[simp] theorem State.setCode_res3 (s : State) (c : Code) : (s.setCode c).res3 = s.res3 := rfl
@[simp] theorem State.setCode_mem (s : State) (c : Code) : (s.setCode c).mem = s.mem := rfl
@[simp] theorem State.setCode_trunc (s : State) (c : Code) : (s.setCode c).trunc = s.trunc := rfl
@[simp] theorem State.setCode_slot (s : State) (c : Code) : (s.setCode c).slot = s.slot := rfl
@[simp] theorem State.setCode_rbuf (s : State) (c : Code) : (s.setCode c).rbuf = s.rbuf := rfl
@[simp] theorem State.setCode_stream (s : State) (c : Code) : (s.setCode c).stream = s.stream := rfl
@[simp] theorem State.setCode_op (s : State) (c : Code) : (s.setCode c).op = s.op := rfl
@[simp] theorem State.setCode_arg0 (s : State) (c : Code) : (s.setCode c).arg0 = s.arg0 := rfl
@[simp] theorem State.setCode_arg1 (s : State) (c : Code) : (s.setCode c).arg1 = s.arg1 := rfl
@[simp] theorem State.setCode_scfg (s : State) (c : Code) : (s.setCode c).scfg = s.scfg := rfl
@[simp] theorem State.setCode_rate (s : State) (c : Code) : (s.setCode c).rate = s.rate := rfl
@[simp] theorem State.setCode_hiresSup (s : State) (c : Code) : (s.setCode c).hiresSup = s.hiresSup := rfl
@[simp] theorem State.setCode_chtab (s : State) (c : Code) : (s.setCode c).chtab = s.chtab := rfl
@[simp] theorem State.setCode_calram (s : State) (c : Code) : (s.setCode c).calram = s.calram := rfl
@[simp] theorem State.setCode_atr (s : State) (c : Code) : (s.setCode c).atr = s.atr := rfl
@[simp] theorem State.setCode_anch (s : State) (c : Code) : (s.setCode c).anch = s.anch := rfl
@[simp] theorem State.setCode_acttab (s : State) (c : Code) : (s.setCode c).acttab = s.acttab := rfl
@[simp] theorem State.setCode_pprR (s : State) (c : Code) : (s.setCode c).pprR = s.pprR := rfl
@[simp] theorem State.setCode_pktR (s : State) (c : Code) : (s.setCode c).pktR = s.pktR := rfl
@[simp] theorem State.setCode_cfg (s : State) (c : Code) : (s.setCode c).cfg = s.cfg := rfl
@[simp] theorem State.setCode_bus (s : State) (c : Code) : (s.setCode c).bus = s.bus := rfl
@[simp] theorem State.setCode_reply (s : State) (c : Code) : (s.setCode c).reply = s.reply := rfl

/-! ### `State.setStream` -/

@[simp] theorem State.setStream_code (s : State) (st : StreamState) : (s.setStream st).code = s.code := rfl
@[simp] theorem State.setStream_draws (s : State) (st : StreamState) : (s.setStream st).draws = s.draws := rfl
@[simp] theorem State.setStream_res0 (s : State) (st : StreamState) : (s.setStream st).res0 = s.res0 := rfl
@[simp] theorem State.setStream_res1 (s : State) (st : StreamState) : (s.setStream st).res1 = s.res1 := rfl
@[simp] theorem State.setStream_res2 (s : State) (st : StreamState) : (s.setStream st).res2 = s.res2 := rfl
@[simp] theorem State.setStream_res3 (s : State) (st : StreamState) : (s.setStream st).res3 = s.res3 := rfl
@[simp] theorem State.setStream_mem (s : State) (st : StreamState) : (s.setStream st).mem = s.mem := rfl
@[simp] theorem State.setStream_trunc (s : State) (st : StreamState) : (s.setStream st).trunc = s.trunc := rfl
@[simp] theorem State.setStream_slot (s : State) (st : StreamState) : (s.setStream st).slot = s.slot := rfl
@[simp] theorem State.setStream_rbuf (s : State) (st : StreamState) : (s.setStream st).rbuf = s.rbuf := rfl
@[simp] theorem State.setStream_stream (s : State) (st : StreamState) : (s.setStream st).stream = st := rfl
@[simp] theorem State.setStream_op (s : State) (st : StreamState) : (s.setStream st).op = s.op := rfl
@[simp] theorem State.setStream_arg0 (s : State) (st : StreamState) : (s.setStream st).arg0 = s.arg0 := rfl
@[simp] theorem State.setStream_arg1 (s : State) (st : StreamState) : (s.setStream st).arg1 = s.arg1 := rfl
@[simp] theorem State.setStream_scfg (s : State) (st : StreamState) : (s.setStream st).scfg = s.scfg := rfl
@[simp] theorem State.setStream_rate (s : State) (st : StreamState) : (s.setStream st).rate = s.rate := rfl
@[simp] theorem State.setStream_hiresSup (s : State) (st : StreamState) : (s.setStream st).hiresSup = s.hiresSup := rfl
@[simp] theorem State.setStream_chtab (s : State) (st : StreamState) : (s.setStream st).chtab = s.chtab := rfl
@[simp] theorem State.setStream_calram (s : State) (st : StreamState) : (s.setStream st).calram = s.calram := rfl
@[simp] theorem State.setStream_atr (s : State) (st : StreamState) : (s.setStream st).atr = s.atr := rfl
@[simp] theorem State.setStream_anch (s : State) (st : StreamState) : (s.setStream st).anch = s.anch := rfl
@[simp] theorem State.setStream_acttab (s : State) (st : StreamState) : (s.setStream st).acttab = s.acttab := rfl
@[simp] theorem State.setStream_pprR (s : State) (st : StreamState) : (s.setStream st).pprR = s.pprR := rfl
@[simp] theorem State.setStream_pktR (s : State) (st : StreamState) : (s.setStream st).pktR = s.pktR := rfl
@[simp] theorem State.setStream_cfg (s : State) (st : StreamState) : (s.setStream st).cfg = s.cfg := rfl
@[simp] theorem State.setStream_bus (s : State) (st : StreamState) : (s.setStream st).bus = s.bus := rfl
@[simp] theorem State.setStream_reply (s : State) (st : StreamState) : (s.setStream st).reply = s.reply := rfl

/-! ### `State.setTrunc` -/

@[simp] theorem State.setTrunc_code (s : State) (b : Bool) : (s.setTrunc b).code = s.code := rfl
@[simp] theorem State.setTrunc_draws (s : State) (b : Bool) : (s.setTrunc b).draws = s.draws := rfl
@[simp] theorem State.setTrunc_res0 (s : State) (b : Bool) : (s.setTrunc b).res0 = s.res0 := rfl
@[simp] theorem State.setTrunc_res1 (s : State) (b : Bool) : (s.setTrunc b).res1 = s.res1 := rfl
@[simp] theorem State.setTrunc_res2 (s : State) (b : Bool) : (s.setTrunc b).res2 = s.res2 := rfl
@[simp] theorem State.setTrunc_res3 (s : State) (b : Bool) : (s.setTrunc b).res3 = s.res3 := rfl
@[simp] theorem State.setTrunc_mem (s : State) (b : Bool) : (s.setTrunc b).mem = s.mem := rfl
@[simp] theorem State.setTrunc_trunc (s : State) (b : Bool) : (s.setTrunc b).trunc = b := rfl
@[simp] theorem State.setTrunc_slot (s : State) (b : Bool) : (s.setTrunc b).slot = s.slot := rfl
@[simp] theorem State.setTrunc_rbuf (s : State) (b : Bool) : (s.setTrunc b).rbuf = s.rbuf := rfl
@[simp] theorem State.setTrunc_stream (s : State) (b : Bool) : (s.setTrunc b).stream = s.stream := rfl
@[simp] theorem State.setTrunc_op (s : State) (b : Bool) : (s.setTrunc b).op = s.op := rfl
@[simp] theorem State.setTrunc_arg0 (s : State) (b : Bool) : (s.setTrunc b).arg0 = s.arg0 := rfl
@[simp] theorem State.setTrunc_arg1 (s : State) (b : Bool) : (s.setTrunc b).arg1 = s.arg1 := rfl
@[simp] theorem State.setTrunc_scfg (s : State) (b : Bool) : (s.setTrunc b).scfg = s.scfg := rfl
@[simp] theorem State.setTrunc_rate (s : State) (b : Bool) : (s.setTrunc b).rate = s.rate := rfl
@[simp] theorem State.setTrunc_hiresSup (s : State) (b : Bool) : (s.setTrunc b).hiresSup = s.hiresSup := rfl
@[simp] theorem State.setTrunc_chtab (s : State) (b : Bool) : (s.setTrunc b).chtab = s.chtab := rfl
@[simp] theorem State.setTrunc_calram (s : State) (b : Bool) : (s.setTrunc b).calram = s.calram := rfl
@[simp] theorem State.setTrunc_atr (s : State) (b : Bool) : (s.setTrunc b).atr = s.atr := rfl
@[simp] theorem State.setTrunc_anch (s : State) (b : Bool) : (s.setTrunc b).anch = s.anch := rfl
@[simp] theorem State.setTrunc_acttab (s : State) (b : Bool) : (s.setTrunc b).acttab = s.acttab := rfl
@[simp] theorem State.setTrunc_pprR (s : State) (b : Bool) : (s.setTrunc b).pprR = s.pprR := rfl
@[simp] theorem State.setTrunc_pktR (s : State) (b : Bool) : (s.setTrunc b).pktR = s.pktR := rfl
@[simp] theorem State.setTrunc_cfg (s : State) (b : Bool) : (s.setTrunc b).cfg = s.cfg := rfl
@[simp] theorem State.setTrunc_bus (s : State) (b : Bool) : (s.setTrunc b).bus = s.bus := rfl
@[simp] theorem State.setTrunc_reply (s : State) (b : Bool) : (s.setTrunc b).reply = s.reply := rfl

/-! ### `State.setMem` -/

@[simp] theorem State.setMem_code (s : State) (m : Memory) : (s.setMem m).code = s.code := rfl
@[simp] theorem State.setMem_draws (s : State) (m : Memory) : (s.setMem m).draws = s.draws := rfl
@[simp] theorem State.setMem_res0 (s : State) (m : Memory) : (s.setMem m).res0 = s.res0 := rfl
@[simp] theorem State.setMem_res1 (s : State) (m : Memory) : (s.setMem m).res1 = s.res1 := rfl
@[simp] theorem State.setMem_res2 (s : State) (m : Memory) : (s.setMem m).res2 = s.res2 := rfl
@[simp] theorem State.setMem_res3 (s : State) (m : Memory) : (s.setMem m).res3 = s.res3 := rfl
@[simp] theorem State.setMem_mem (s : State) (m : Memory) : (s.setMem m).mem = m := rfl
@[simp] theorem State.setMem_trunc (s : State) (m : Memory) : (s.setMem m).trunc = s.trunc := rfl
@[simp] theorem State.setMem_slot (s : State) (m : Memory) : (s.setMem m).slot = s.slot := rfl
@[simp] theorem State.setMem_rbuf (s : State) (m : Memory) : (s.setMem m).rbuf = s.rbuf := rfl
@[simp] theorem State.setMem_stream (s : State) (m : Memory) : (s.setMem m).stream = s.stream := rfl
@[simp] theorem State.setMem_op (s : State) (m : Memory) : (s.setMem m).op = s.op := rfl
@[simp] theorem State.setMem_arg0 (s : State) (m : Memory) : (s.setMem m).arg0 = s.arg0 := rfl
@[simp] theorem State.setMem_arg1 (s : State) (m : Memory) : (s.setMem m).arg1 = s.arg1 := rfl
@[simp] theorem State.setMem_scfg (s : State) (m : Memory) : (s.setMem m).scfg = s.scfg := rfl
@[simp] theorem State.setMem_rate (s : State) (m : Memory) : (s.setMem m).rate = s.rate := rfl
@[simp] theorem State.setMem_hiresSup (s : State) (m : Memory) : (s.setMem m).hiresSup = s.hiresSup := rfl
@[simp] theorem State.setMem_chtab (s : State) (m : Memory) : (s.setMem m).chtab = s.chtab := rfl
@[simp] theorem State.setMem_calram (s : State) (m : Memory) : (s.setMem m).calram = s.calram := rfl
@[simp] theorem State.setMem_atr (s : State) (m : Memory) : (s.setMem m).atr = s.atr := rfl
@[simp] theorem State.setMem_anch (s : State) (m : Memory) : (s.setMem m).anch = s.anch := rfl
@[simp] theorem State.setMem_acttab (s : State) (m : Memory) : (s.setMem m).acttab = s.acttab := rfl
@[simp] theorem State.setMem_pprR (s : State) (m : Memory) : (s.setMem m).pprR = s.pprR := rfl
@[simp] theorem State.setMem_pktR (s : State) (m : Memory) : (s.setMem m).pktR = s.pktR := rfl
@[simp] theorem State.setMem_cfg (s : State) (m : Memory) : (s.setMem m).cfg = s.cfg := rfl
@[simp] theorem State.setMem_bus (s : State) (m : Memory) : (s.setMem m).bus = s.bus := rfl
@[simp] theorem State.setMem_reply (s : State) (m : Memory) : (s.setMem m).reply = s.reply := rfl

/-! ### `State.drawn` -/

@[simp] theorem State.drawn_code (s : State) (n : Nat) : (s.drawn n).code = s.code := rfl
@[simp] theorem State.drawn_draws (s : State) (n : Nat) : (s.drawn n).draws = s.draws + n := rfl
@[simp] theorem State.drawn_res0 (s : State) (n : Nat) : (s.drawn n).res0 = s.res0 := rfl
@[simp] theorem State.drawn_res1 (s : State) (n : Nat) : (s.drawn n).res1 = s.res1 := rfl
@[simp] theorem State.drawn_res2 (s : State) (n : Nat) : (s.drawn n).res2 = s.res2 := rfl
@[simp] theorem State.drawn_res3 (s : State) (n : Nat) : (s.drawn n).res3 = s.res3 := rfl
@[simp] theorem State.drawn_mem (s : State) (n : Nat) : (s.drawn n).mem = s.mem := rfl
@[simp] theorem State.drawn_trunc (s : State) (n : Nat) : (s.drawn n).trunc = s.trunc := rfl
@[simp] theorem State.drawn_slot (s : State) (n : Nat) : (s.drawn n).slot = s.slot := rfl
@[simp] theorem State.drawn_rbuf (s : State) (n : Nat) : (s.drawn n).rbuf = s.rbuf := rfl
@[simp] theorem State.drawn_stream (s : State) (n : Nat) : (s.drawn n).stream = s.stream := rfl
@[simp] theorem State.drawn_op (s : State) (n : Nat) : (s.drawn n).op = s.op := rfl
@[simp] theorem State.drawn_arg0 (s : State) (n : Nat) : (s.drawn n).arg0 = s.arg0 := rfl
@[simp] theorem State.drawn_arg1 (s : State) (n : Nat) : (s.drawn n).arg1 = s.arg1 := rfl
@[simp] theorem State.drawn_scfg (s : State) (n : Nat) : (s.drawn n).scfg = s.scfg := rfl
@[simp] theorem State.drawn_rate (s : State) (n : Nat) : (s.drawn n).rate = s.rate := rfl
@[simp] theorem State.drawn_hiresSup (s : State) (n : Nat) : (s.drawn n).hiresSup = s.hiresSup := rfl
@[simp] theorem State.drawn_chtab (s : State) (n : Nat) : (s.drawn n).chtab = s.chtab := rfl
@[simp] theorem State.drawn_calram (s : State) (n : Nat) : (s.drawn n).calram = s.calram := rfl
@[simp] theorem State.drawn_atr (s : State) (n : Nat) : (s.drawn n).atr = s.atr := rfl
@[simp] theorem State.drawn_anch (s : State) (n : Nat) : (s.drawn n).anch = s.anch := rfl
@[simp] theorem State.drawn_acttab (s : State) (n : Nat) : (s.drawn n).acttab = s.acttab := rfl
@[simp] theorem State.drawn_pprR (s : State) (n : Nat) : (s.drawn n).pprR = s.pprR := rfl
@[simp] theorem State.drawn_pktR (s : State) (n : Nat) : (s.drawn n).pktR = s.pktR := rfl
@[simp] theorem State.drawn_cfg (s : State) (n : Nat) : (s.drawn n).cfg = s.cfg := rfl
@[simp] theorem State.drawn_bus (s : State) (n : Nat) : (s.drawn n).bus = s.bus := rfl
@[simp] theorem State.drawn_reply (s : State) (n : Nat) : (s.drawn n).reply = s.reply := rfl

/-! ### `State.setRes0` -/

@[simp] theorem State.setRes0_code (s : State) (v : Word) : (s.setRes0 v).code = s.code := rfl
@[simp] theorem State.setRes0_draws (s : State) (v : Word) : (s.setRes0 v).draws = s.draws := rfl
@[simp] theorem State.setRes0_res0 (s : State) (v : Word) : (s.setRes0 v).res0 = v := rfl
@[simp] theorem State.setRes0_res1 (s : State) (v : Word) : (s.setRes0 v).res1 = s.res1 := rfl
@[simp] theorem State.setRes0_res2 (s : State) (v : Word) : (s.setRes0 v).res2 = s.res2 := rfl
@[simp] theorem State.setRes0_res3 (s : State) (v : Word) : (s.setRes0 v).res3 = s.res3 := rfl
@[simp] theorem State.setRes0_mem (s : State) (v : Word) : (s.setRes0 v).mem = s.mem := rfl
@[simp] theorem State.setRes0_trunc (s : State) (v : Word) : (s.setRes0 v).trunc = s.trunc := rfl
@[simp] theorem State.setRes0_slot (s : State) (v : Word) : (s.setRes0 v).slot = s.slot := rfl
@[simp] theorem State.setRes0_rbuf (s : State) (v : Word) : (s.setRes0 v).rbuf = s.rbuf := rfl
@[simp] theorem State.setRes0_stream (s : State) (v : Word) : (s.setRes0 v).stream = s.stream := rfl
@[simp] theorem State.setRes0_op (s : State) (v : Word) : (s.setRes0 v).op = s.op := rfl
@[simp] theorem State.setRes0_arg0 (s : State) (v : Word) : (s.setRes0 v).arg0 = s.arg0 := rfl
@[simp] theorem State.setRes0_arg1 (s : State) (v : Word) : (s.setRes0 v).arg1 = s.arg1 := rfl
@[simp] theorem State.setRes0_scfg (s : State) (v : Word) : (s.setRes0 v).scfg = s.scfg := rfl
@[simp] theorem State.setRes0_rate (s : State) (v : Word) : (s.setRes0 v).rate = s.rate := rfl
@[simp] theorem State.setRes0_hiresSup (s : State) (v : Word) : (s.setRes0 v).hiresSup = s.hiresSup := rfl
@[simp] theorem State.setRes0_chtab (s : State) (v : Word) : (s.setRes0 v).chtab = s.chtab := rfl
@[simp] theorem State.setRes0_calram (s : State) (v : Word) : (s.setRes0 v).calram = s.calram := rfl
@[simp] theorem State.setRes0_atr (s : State) (v : Word) : (s.setRes0 v).atr = s.atr := rfl
@[simp] theorem State.setRes0_anch (s : State) (v : Word) : (s.setRes0 v).anch = s.anch := rfl
@[simp] theorem State.setRes0_acttab (s : State) (v : Word) : (s.setRes0 v).acttab = s.acttab := rfl
@[simp] theorem State.setRes0_pprR (s : State) (v : Word) : (s.setRes0 v).pprR = s.pprR := rfl
@[simp] theorem State.setRes0_pktR (s : State) (v : Word) : (s.setRes0 v).pktR = s.pktR := rfl
@[simp] theorem State.setRes0_cfg (s : State) (v : Word) : (s.setRes0 v).cfg = s.cfg := rfl
@[simp] theorem State.setRes0_bus (s : State) (v : Word) : (s.setRes0 v).bus = s.bus := rfl
@[simp] theorem State.setRes0_reply (s : State) (v : Word) : (s.setRes0 v).reply = s.reply := rfl

/-! ### `State.setRes01` -/

@[simp] theorem State.setRes01_code (s : State) (v w : Word) : (s.setRes01 v w).code = s.code := rfl
@[simp] theorem State.setRes01_draws (s : State) (v w : Word) : (s.setRes01 v w).draws = s.draws := rfl
@[simp] theorem State.setRes01_res0 (s : State) (v w : Word) : (s.setRes01 v w).res0 = v := rfl
@[simp] theorem State.setRes01_res1 (s : State) (v w : Word) : (s.setRes01 v w).res1 = w := rfl
@[simp] theorem State.setRes01_res2 (s : State) (v w : Word) : (s.setRes01 v w).res2 = s.res2 := rfl
@[simp] theorem State.setRes01_res3 (s : State) (v w : Word) : (s.setRes01 v w).res3 = s.res3 := rfl
@[simp] theorem State.setRes01_mem (s : State) (v w : Word) : (s.setRes01 v w).mem = s.mem := rfl
@[simp] theorem State.setRes01_trunc (s : State) (v w : Word) : (s.setRes01 v w).trunc = s.trunc := rfl
@[simp] theorem State.setRes01_slot (s : State) (v w : Word) : (s.setRes01 v w).slot = s.slot := rfl
@[simp] theorem State.setRes01_rbuf (s : State) (v w : Word) : (s.setRes01 v w).rbuf = s.rbuf := rfl
@[simp] theorem State.setRes01_stream (s : State) (v w : Word) : (s.setRes01 v w).stream = s.stream := rfl
@[simp] theorem State.setRes01_op (s : State) (v w : Word) : (s.setRes01 v w).op = s.op := rfl
@[simp] theorem State.setRes01_arg0 (s : State) (v w : Word) : (s.setRes01 v w).arg0 = s.arg0 := rfl
@[simp] theorem State.setRes01_arg1 (s : State) (v w : Word) : (s.setRes01 v w).arg1 = s.arg1 := rfl
@[simp] theorem State.setRes01_scfg (s : State) (v w : Word) : (s.setRes01 v w).scfg = s.scfg := rfl
@[simp] theorem State.setRes01_rate (s : State) (v w : Word) : (s.setRes01 v w).rate = s.rate := rfl
@[simp] theorem State.setRes01_hiresSup (s : State) (v w : Word) : (s.setRes01 v w).hiresSup = s.hiresSup := rfl
@[simp] theorem State.setRes01_chtab (s : State) (v w : Word) : (s.setRes01 v w).chtab = s.chtab := rfl
@[simp] theorem State.setRes01_calram (s : State) (v w : Word) : (s.setRes01 v w).calram = s.calram := rfl
@[simp] theorem State.setRes01_atr (s : State) (v w : Word) : (s.setRes01 v w).atr = s.atr := rfl
@[simp] theorem State.setRes01_anch (s : State) (v w : Word) : (s.setRes01 v w).anch = s.anch := rfl
@[simp] theorem State.setRes01_acttab (s : State) (v w : Word) : (s.setRes01 v w).acttab = s.acttab := rfl
@[simp] theorem State.setRes01_pprR (s : State) (v w : Word) : (s.setRes01 v w).pprR = s.pprR := rfl
@[simp] theorem State.setRes01_pktR (s : State) (v w : Word) : (s.setRes01 v w).pktR = s.pktR := rfl
@[simp] theorem State.setRes01_cfg (s : State) (v w : Word) : (s.setRes01 v w).cfg = s.cfg := rfl
@[simp] theorem State.setRes01_bus (s : State) (v w : Word) : (s.setRes01 v w).bus = s.bus := rfl
@[simp] theorem State.setRes01_reply (s : State) (v w : Word) : (s.setRes01 v w).reply = s.reply := rfl

/-! ### `State.setResults` -/

@[simp] theorem State.setResults_code (s : State) (a b c d : Word) : (s.setResults a b c d).code = s.code := rfl
@[simp] theorem State.setResults_draws (s : State) (a b c d : Word) : (s.setResults a b c d).draws = s.draws := rfl
@[simp] theorem State.setResults_res0 (s : State) (a b c d : Word) : (s.setResults a b c d).res0 = a := rfl
@[simp] theorem State.setResults_res1 (s : State) (a b c d : Word) : (s.setResults a b c d).res1 = b := rfl
@[simp] theorem State.setResults_res2 (s : State) (a b c d : Word) : (s.setResults a b c d).res2 = c := rfl
@[simp] theorem State.setResults_res3 (s : State) (a b c d : Word) : (s.setResults a b c d).res3 = d := rfl
@[simp] theorem State.setResults_mem (s : State) (a b c d : Word) : (s.setResults a b c d).mem = s.mem := rfl
@[simp] theorem State.setResults_trunc (s : State) (a b c d : Word) : (s.setResults a b c d).trunc = s.trunc := rfl
@[simp] theorem State.setResults_slot (s : State) (a b c d : Word) : (s.setResults a b c d).slot = s.slot := rfl
@[simp] theorem State.setResults_rbuf (s : State) (a b c d : Word) : (s.setResults a b c d).rbuf = s.rbuf := rfl
@[simp] theorem State.setResults_stream (s : State) (a b c d : Word) : (s.setResults a b c d).stream = s.stream := rfl
@[simp] theorem State.setResults_op (s : State) (a b c d : Word) : (s.setResults a b c d).op = s.op := rfl
@[simp] theorem State.setResults_arg0 (s : State) (a b c d : Word) : (s.setResults a b c d).arg0 = s.arg0 := rfl
@[simp] theorem State.setResults_arg1 (s : State) (a b c d : Word) : (s.setResults a b c d).arg1 = s.arg1 := rfl
@[simp] theorem State.setResults_scfg (s : State) (a b c d : Word) : (s.setResults a b c d).scfg = s.scfg := rfl
@[simp] theorem State.setResults_rate (s : State) (a b c d : Word) : (s.setResults a b c d).rate = s.rate := rfl
@[simp] theorem State.setResults_hiresSup (s : State) (a b c d : Word) : (s.setResults a b c d).hiresSup = s.hiresSup := rfl
@[simp] theorem State.setResults_chtab (s : State) (a b c d : Word) : (s.setResults a b c d).chtab = s.chtab := rfl
@[simp] theorem State.setResults_calram (s : State) (a b c d : Word) : (s.setResults a b c d).calram = s.calram := rfl
@[simp] theorem State.setResults_atr (s : State) (a b c d : Word) : (s.setResults a b c d).atr = s.atr := rfl
@[simp] theorem State.setResults_anch (s : State) (a b c d : Word) : (s.setResults a b c d).anch = s.anch := rfl
@[simp] theorem State.setResults_acttab (s : State) (a b c d : Word) : (s.setResults a b c d).acttab = s.acttab := rfl
@[simp] theorem State.setResults_pprR (s : State) (a b c d : Word) : (s.setResults a b c d).pprR = s.pprR := rfl
@[simp] theorem State.setResults_pktR (s : State) (a b c d : Word) : (s.setResults a b c d).pktR = s.pktR := rfl
@[simp] theorem State.setResults_cfg (s : State) (a b c d : Word) : (s.setResults a b c d).cfg = s.cfg := rfl
@[simp] theorem State.setResults_bus (s : State) (a b c d : Word) : (s.setResults a b c d).bus = s.bus := rfl
@[simp] theorem State.setResults_reply (s : State) (a b c d : Word) : (s.setResults a b c d).reply = s.reply := rfl

/-! ### `State.setOp` -/

@[simp] theorem State.setOp_code (s : State) (w : Word) : (s.setOp w).code = s.code := rfl
@[simp] theorem State.setOp_draws (s : State) (w : Word) : (s.setOp w).draws = s.draws := rfl
@[simp] theorem State.setOp_res0 (s : State) (w : Word) : (s.setOp w).res0 = s.res0 := rfl
@[simp] theorem State.setOp_res1 (s : State) (w : Word) : (s.setOp w).res1 = s.res1 := rfl
@[simp] theorem State.setOp_res2 (s : State) (w : Word) : (s.setOp w).res2 = s.res2 := rfl
@[simp] theorem State.setOp_res3 (s : State) (w : Word) : (s.setOp w).res3 = s.res3 := rfl
@[simp] theorem State.setOp_mem (s : State) (w : Word) : (s.setOp w).mem = s.mem := rfl
@[simp] theorem State.setOp_trunc (s : State) (w : Word) : (s.setOp w).trunc = s.trunc := rfl
@[simp] theorem State.setOp_slot (s : State) (w : Word) : (s.setOp w).slot = s.slot := rfl
@[simp] theorem State.setOp_rbuf (s : State) (w : Word) : (s.setOp w).rbuf = s.rbuf := rfl
@[simp] theorem State.setOp_stream (s : State) (w : Word) : (s.setOp w).stream = s.stream := rfl
@[simp] theorem State.setOp_op (s : State) (w : Word) : (s.setOp w).op = w := rfl
@[simp] theorem State.setOp_arg0 (s : State) (w : Word) : (s.setOp w).arg0 = s.arg0 := rfl
@[simp] theorem State.setOp_arg1 (s : State) (w : Word) : (s.setOp w).arg1 = s.arg1 := rfl
@[simp] theorem State.setOp_scfg (s : State) (w : Word) : (s.setOp w).scfg = s.scfg := rfl
@[simp] theorem State.setOp_rate (s : State) (w : Word) : (s.setOp w).rate = s.rate := rfl
@[simp] theorem State.setOp_hiresSup (s : State) (w : Word) : (s.setOp w).hiresSup = s.hiresSup := rfl
@[simp] theorem State.setOp_chtab (s : State) (w : Word) : (s.setOp w).chtab = s.chtab := rfl
@[simp] theorem State.setOp_calram (s : State) (w : Word) : (s.setOp w).calram = s.calram := rfl
@[simp] theorem State.setOp_atr (s : State) (w : Word) : (s.setOp w).atr = s.atr := rfl
@[simp] theorem State.setOp_anch (s : State) (w : Word) : (s.setOp w).anch = s.anch := rfl
@[simp] theorem State.setOp_acttab (s : State) (w : Word) : (s.setOp w).acttab = s.acttab := rfl
@[simp] theorem State.setOp_pprR (s : State) (w : Word) : (s.setOp w).pprR = s.pprR := rfl
@[simp] theorem State.setOp_pktR (s : State) (w : Word) : (s.setOp w).pktR = s.pktR := rfl
@[simp] theorem State.setOp_cfg (s : State) (w : Word) : (s.setOp w).cfg = s.cfg := rfl
@[simp] theorem State.setOp_bus (s : State) (w : Word) : (s.setOp w).bus = s.bus := rfl
@[simp] theorem State.setOp_reply (s : State) (w : Word) : (s.setOp w).reply = s.reply := rfl

/-! ### `State.setBus` -/

@[simp] theorem State.setBus_code (s : State) (evs : List BusEvent) : (s.setBus evs).code = s.code := rfl
@[simp] theorem State.setBus_draws (s : State) (evs : List BusEvent) : (s.setBus evs).draws = s.draws := rfl
@[simp] theorem State.setBus_res0 (s : State) (evs : List BusEvent) : (s.setBus evs).res0 = s.res0 := rfl
@[simp] theorem State.setBus_res1 (s : State) (evs : List BusEvent) : (s.setBus evs).res1 = s.res1 := rfl
@[simp] theorem State.setBus_res2 (s : State) (evs : List BusEvent) : (s.setBus evs).res2 = s.res2 := rfl
@[simp] theorem State.setBus_res3 (s : State) (evs : List BusEvent) : (s.setBus evs).res3 = s.res3 := rfl
@[simp] theorem State.setBus_mem (s : State) (evs : List BusEvent) : (s.setBus evs).mem = s.mem := rfl
@[simp] theorem State.setBus_trunc (s : State) (evs : List BusEvent) : (s.setBus evs).trunc = s.trunc := rfl
@[simp] theorem State.setBus_slot (s : State) (evs : List BusEvent) : (s.setBus evs).slot = s.slot := rfl
@[simp] theorem State.setBus_rbuf (s : State) (evs : List BusEvent) : (s.setBus evs).rbuf = s.rbuf := rfl
@[simp] theorem State.setBus_stream (s : State) (evs : List BusEvent) : (s.setBus evs).stream = s.stream := rfl
@[simp] theorem State.setBus_op (s : State) (evs : List BusEvent) : (s.setBus evs).op = s.op := rfl
@[simp] theorem State.setBus_arg0 (s : State) (evs : List BusEvent) : (s.setBus evs).arg0 = s.arg0 := rfl
@[simp] theorem State.setBus_arg1 (s : State) (evs : List BusEvent) : (s.setBus evs).arg1 = s.arg1 := rfl
@[simp] theorem State.setBus_scfg (s : State) (evs : List BusEvent) : (s.setBus evs).scfg = s.scfg := rfl
@[simp] theorem State.setBus_rate (s : State) (evs : List BusEvent) : (s.setBus evs).rate = s.rate := rfl
@[simp] theorem State.setBus_hiresSup (s : State) (evs : List BusEvent) : (s.setBus evs).hiresSup = s.hiresSup := rfl
@[simp] theorem State.setBus_chtab (s : State) (evs : List BusEvent) : (s.setBus evs).chtab = s.chtab := rfl
@[simp] theorem State.setBus_calram (s : State) (evs : List BusEvent) : (s.setBus evs).calram = s.calram := rfl
@[simp] theorem State.setBus_atr (s : State) (evs : List BusEvent) : (s.setBus evs).atr = s.atr := rfl
@[simp] theorem State.setBus_anch (s : State) (evs : List BusEvent) : (s.setBus evs).anch = s.anch := rfl
@[simp] theorem State.setBus_acttab (s : State) (evs : List BusEvent) : (s.setBus evs).acttab = s.acttab := rfl
@[simp] theorem State.setBus_pprR (s : State) (evs : List BusEvent) : (s.setBus evs).pprR = s.pprR := rfl
@[simp] theorem State.setBus_pktR (s : State) (evs : List BusEvent) : (s.setBus evs).pktR = s.pktR := rfl
@[simp] theorem State.setBus_cfg (s : State) (evs : List BusEvent) : (s.setBus evs).cfg = s.cfg := rfl
@[simp] theorem State.setBus_bus (s : State) (evs : List BusEvent) : (s.setBus evs).bus = evs := rfl
@[simp] theorem State.setBus_reply (s : State) (evs : List BusEvent) : (s.setBus evs).reply = s.reply := rfl

/-! ### `State.answered` -/

@[simp] theorem State.answered_code (s : State) (r : Reply) : (s.answered r).code = s.code := rfl
@[simp] theorem State.answered_draws (s : State) (r : Reply) : (s.answered r).draws = s.draws := rfl
@[simp] theorem State.answered_res0 (s : State) (r : Reply) : (s.answered r).res0 = s.res0 := rfl
@[simp] theorem State.answered_res1 (s : State) (r : Reply) : (s.answered r).res1 = s.res1 := rfl
@[simp] theorem State.answered_res2 (s : State) (r : Reply) : (s.answered r).res2 = s.res2 := rfl
@[simp] theorem State.answered_res3 (s : State) (r : Reply) : (s.answered r).res3 = s.res3 := rfl
@[simp] theorem State.answered_mem (s : State) (r : Reply) : (s.answered r).mem = s.mem := rfl
@[simp] theorem State.answered_trunc (s : State) (r : Reply) : (s.answered r).trunc = s.trunc := rfl
@[simp] theorem State.answered_slot (s : State) (r : Reply) : (s.answered r).slot = s.slot := rfl
@[simp] theorem State.answered_rbuf (s : State) (r : Reply) : (s.answered r).rbuf = s.rbuf := rfl
@[simp] theorem State.answered_stream (s : State) (r : Reply) : (s.answered r).stream = s.stream := rfl
@[simp] theorem State.answered_op (s : State) (r : Reply) : (s.answered r).op = s.op := rfl
@[simp] theorem State.answered_arg0 (s : State) (r : Reply) : (s.answered r).arg0 = s.arg0 := rfl
@[simp] theorem State.answered_arg1 (s : State) (r : Reply) : (s.answered r).arg1 = s.arg1 := rfl
@[simp] theorem State.answered_scfg (s : State) (r : Reply) : (s.answered r).scfg = s.scfg := rfl
@[simp] theorem State.answered_rate (s : State) (r : Reply) : (s.answered r).rate = s.rate := rfl
@[simp] theorem State.answered_hiresSup (s : State) (r : Reply) : (s.answered r).hiresSup = s.hiresSup := rfl
@[simp] theorem State.answered_chtab (s : State) (r : Reply) : (s.answered r).chtab = s.chtab := rfl
@[simp] theorem State.answered_calram (s : State) (r : Reply) : (s.answered r).calram = s.calram := rfl
@[simp] theorem State.answered_atr (s : State) (r : Reply) : (s.answered r).atr = s.atr := rfl
@[simp] theorem State.answered_anch (s : State) (r : Reply) : (s.answered r).anch = s.anch := rfl
@[simp] theorem State.answered_acttab (s : State) (r : Reply) : (s.answered r).acttab = s.acttab := rfl
@[simp] theorem State.answered_pprR (s : State) (r : Reply) : (s.answered r).pprR = s.pprR := rfl
@[simp] theorem State.answered_pktR (s : State) (r : Reply) : (s.answered r).pktR = s.pktR := rfl
@[simp] theorem State.answered_cfg (s : State) (r : Reply) : (s.answered r).cfg = s.cfg := rfl
@[simp] theorem State.answered_bus (s : State) (r : Reply) : (s.answered r).bus = s.bus := rfl
@[simp] theorem State.answered_reply (s : State) (r : Reply) : (s.answered r).reply = r := rfl

/-! ### `State.emptied` -/

@[simp] theorem State.emptied_code (s : State) : s.emptied.code = s.code := rfl
@[simp] theorem State.emptied_draws (s : State) : s.emptied.draws = s.draws := rfl
@[simp] theorem State.emptied_res0 (s : State) : s.emptied.res0 = s.res0 := rfl
@[simp] theorem State.emptied_res1 (s : State) : s.emptied.res1 = s.res1 := rfl
@[simp] theorem State.emptied_res2 (s : State) : s.emptied.res2 = s.res2 := rfl
@[simp] theorem State.emptied_res3 (s : State) : s.emptied.res3 = s.res3 := rfl
@[simp] theorem State.emptied_mem (s : State) : s.emptied.mem = s.mem := rfl
@[simp] theorem State.emptied_trunc (s : State) : s.emptied.trunc = s.trunc := rfl
@[simp] theorem State.emptied_slot (s : State) : s.emptied.slot = 0 := rfl
@[simp] theorem State.emptied_rbuf (s : State) : s.emptied.rbuf = [] := rfl
@[simp] theorem State.emptied_stream (s : State) : s.emptied.stream = s.stream := rfl
@[simp] theorem State.emptied_op (s : State) : s.emptied.op = s.op := rfl
@[simp] theorem State.emptied_arg0 (s : State) : s.emptied.arg0 = s.arg0 := rfl
@[simp] theorem State.emptied_arg1 (s : State) : s.emptied.arg1 = s.arg1 := rfl
@[simp] theorem State.emptied_scfg (s : State) : s.emptied.scfg = s.scfg := rfl
@[simp] theorem State.emptied_rate (s : State) : s.emptied.rate = s.rate := rfl
@[simp] theorem State.emptied_hiresSup (s : State) : s.emptied.hiresSup = s.hiresSup := rfl
@[simp] theorem State.emptied_chtab (s : State) : s.emptied.chtab = s.chtab := rfl
@[simp] theorem State.emptied_calram (s : State) : s.emptied.calram = s.calram := rfl
@[simp] theorem State.emptied_atr (s : State) : s.emptied.atr = s.atr := rfl
@[simp] theorem State.emptied_anch (s : State) : s.emptied.anch = s.anch := rfl
@[simp] theorem State.emptied_acttab (s : State) : s.emptied.acttab = s.acttab := rfl
@[simp] theorem State.emptied_pprR (s : State) : s.emptied.pprR = s.pprR := rfl
@[simp] theorem State.emptied_pktR (s : State) : s.emptied.pktR = s.pktR := rfl
@[simp] theorem State.emptied_cfg (s : State) : s.emptied.cfg = s.cfg := rfl
@[simp] theorem State.emptied_bus (s : State) : s.emptied.bus = s.bus := rfl
@[simp] theorem State.emptied_reply (s : State) : s.emptied.reply = s.reply := rfl

/-! ### `State.setRbuf` -/

@[simp] theorem State.setRbuf_code (s : State) (b : List Byte) : (s.setRbuf b).code = s.code := rfl
@[simp] theorem State.setRbuf_draws (s : State) (b : List Byte) : (s.setRbuf b).draws = s.draws := rfl
@[simp] theorem State.setRbuf_res0 (s : State) (b : List Byte) : (s.setRbuf b).res0 = s.res0 := rfl
@[simp] theorem State.setRbuf_res1 (s : State) (b : List Byte) : (s.setRbuf b).res1 = s.res1 := rfl
@[simp] theorem State.setRbuf_res2 (s : State) (b : List Byte) : (s.setRbuf b).res2 = s.res2 := rfl
@[simp] theorem State.setRbuf_res3 (s : State) (b : List Byte) : (s.setRbuf b).res3 = s.res3 := rfl
@[simp] theorem State.setRbuf_mem (s : State) (b : List Byte) : (s.setRbuf b).mem = s.mem := rfl
@[simp] theorem State.setRbuf_trunc (s : State) (b : List Byte) : (s.setRbuf b).trunc = s.trunc := rfl
@[simp] theorem State.setRbuf_slot (s : State) (b : List Byte) : (s.setRbuf b).slot = s.slot := rfl
@[simp] theorem State.setRbuf_rbuf (s : State) (b : List Byte) : (s.setRbuf b).rbuf = b := rfl
@[simp] theorem State.setRbuf_stream (s : State) (b : List Byte) : (s.setRbuf b).stream = s.stream := rfl
@[simp] theorem State.setRbuf_op (s : State) (b : List Byte) : (s.setRbuf b).op = s.op := rfl
@[simp] theorem State.setRbuf_arg0 (s : State) (b : List Byte) : (s.setRbuf b).arg0 = s.arg0 := rfl
@[simp] theorem State.setRbuf_arg1 (s : State) (b : List Byte) : (s.setRbuf b).arg1 = s.arg1 := rfl
@[simp] theorem State.setRbuf_scfg (s : State) (b : List Byte) : (s.setRbuf b).scfg = s.scfg := rfl
@[simp] theorem State.setRbuf_rate (s : State) (b : List Byte) : (s.setRbuf b).rate = s.rate := rfl
@[simp] theorem State.setRbuf_hiresSup (s : State) (b : List Byte) : (s.setRbuf b).hiresSup = s.hiresSup := rfl
@[simp] theorem State.setRbuf_chtab (s : State) (b : List Byte) : (s.setRbuf b).chtab = s.chtab := rfl
@[simp] theorem State.setRbuf_calram (s : State) (b : List Byte) : (s.setRbuf b).calram = s.calram := rfl
@[simp] theorem State.setRbuf_atr (s : State) (b : List Byte) : (s.setRbuf b).atr = s.atr := rfl
@[simp] theorem State.setRbuf_anch (s : State) (b : List Byte) : (s.setRbuf b).anch = s.anch := rfl
@[simp] theorem State.setRbuf_acttab (s : State) (b : List Byte) : (s.setRbuf b).acttab = s.acttab := rfl
@[simp] theorem State.setRbuf_pprR (s : State) (b : List Byte) : (s.setRbuf b).pprR = s.pprR := rfl
@[simp] theorem State.setRbuf_pktR (s : State) (b : List Byte) : (s.setRbuf b).pktR = s.pktR := rfl
@[simp] theorem State.setRbuf_cfg (s : State) (b : List Byte) : (s.setRbuf b).cfg = s.cfg := rfl
@[simp] theorem State.setRbuf_bus (s : State) (b : List Byte) : (s.setRbuf b).bus = s.bus := rfl
@[simp] theorem State.setRbuf_reply (s : State) (b : List Byte) : (s.setRbuf b).reply = s.reply := rfl

/-! ### `State.setSlot` -/

@[simp] theorem State.setSlot_code (s : State) (v : BitVec 4) : (s.setSlot v).code = s.code := rfl
@[simp] theorem State.setSlot_draws (s : State) (v : BitVec 4) : (s.setSlot v).draws = s.draws := rfl
@[simp] theorem State.setSlot_res0 (s : State) (v : BitVec 4) : (s.setSlot v).res0 = s.res0 := rfl
@[simp] theorem State.setSlot_res1 (s : State) (v : BitVec 4) : (s.setSlot v).res1 = s.res1 := rfl
@[simp] theorem State.setSlot_res2 (s : State) (v : BitVec 4) : (s.setSlot v).res2 = s.res2 := rfl
@[simp] theorem State.setSlot_res3 (s : State) (v : BitVec 4) : (s.setSlot v).res3 = s.res3 := rfl
@[simp] theorem State.setSlot_mem (s : State) (v : BitVec 4) : (s.setSlot v).mem = s.mem := rfl
@[simp] theorem State.setSlot_trunc (s : State) (v : BitVec 4) : (s.setSlot v).trunc = s.trunc := rfl
@[simp] theorem State.setSlot_slot (s : State) (v : BitVec 4) : (s.setSlot v).slot = v := rfl
@[simp] theorem State.setSlot_rbuf (s : State) (v : BitVec 4) : (s.setSlot v).rbuf = s.rbuf := rfl
@[simp] theorem State.setSlot_stream (s : State) (v : BitVec 4) : (s.setSlot v).stream = s.stream := rfl
@[simp] theorem State.setSlot_op (s : State) (v : BitVec 4) : (s.setSlot v).op = s.op := rfl
@[simp] theorem State.setSlot_arg0 (s : State) (v : BitVec 4) : (s.setSlot v).arg0 = s.arg0 := rfl
@[simp] theorem State.setSlot_arg1 (s : State) (v : BitVec 4) : (s.setSlot v).arg1 = s.arg1 := rfl
@[simp] theorem State.setSlot_scfg (s : State) (v : BitVec 4) : (s.setSlot v).scfg = s.scfg := rfl
@[simp] theorem State.setSlot_rate (s : State) (v : BitVec 4) : (s.setSlot v).rate = s.rate := rfl
@[simp] theorem State.setSlot_hiresSup (s : State) (v : BitVec 4) : (s.setSlot v).hiresSup = s.hiresSup := rfl
@[simp] theorem State.setSlot_chtab (s : State) (v : BitVec 4) : (s.setSlot v).chtab = s.chtab := rfl
@[simp] theorem State.setSlot_calram (s : State) (v : BitVec 4) : (s.setSlot v).calram = s.calram := rfl
@[simp] theorem State.setSlot_atr (s : State) (v : BitVec 4) : (s.setSlot v).atr = s.atr := rfl
@[simp] theorem State.setSlot_anch (s : State) (v : BitVec 4) : (s.setSlot v).anch = s.anch := rfl
@[simp] theorem State.setSlot_acttab (s : State) (v : BitVec 4) : (s.setSlot v).acttab = s.acttab := rfl
@[simp] theorem State.setSlot_pprR (s : State) (v : BitVec 4) : (s.setSlot v).pprR = s.pprR := rfl
@[simp] theorem State.setSlot_pktR (s : State) (v : BitVec 4) : (s.setSlot v).pktR = s.pktR := rfl
@[simp] theorem State.setSlot_cfg (s : State) (v : BitVec 4) : (s.setSlot v).cfg = s.cfg := rfl
@[simp] theorem State.setSlot_bus (s : State) (v : BitVec 4) : (s.setSlot v).bus = s.bus := rfl
@[simp] theorem State.setSlot_reply (s : State) (v : BitVec 4) : (s.setSlot v).reply = s.reply := rfl

/-! ### `State.latched` -/

@[simp] theorem State.latched_code (s : State) : s.latched.code = s.code := rfl
@[simp] theorem State.latched_draws (s : State) : s.latched.draws = s.draws := rfl
@[simp] theorem State.latched_res0 (s : State) : s.latched.res0 = s.res0 := rfl
@[simp] theorem State.latched_res1 (s : State) : s.latched.res1 = s.res1 := rfl
@[simp] theorem State.latched_res2 (s : State) : s.latched.res2 = s.res2 := rfl
@[simp] theorem State.latched_res3 (s : State) : s.latched.res3 = s.res3 := rfl
@[simp] theorem State.latched_mem (s : State) : s.latched.mem = s.mem := rfl
@[simp] theorem State.latched_trunc (s : State) : s.latched.trunc = s.trunc := rfl
@[simp] theorem State.latched_slot (s : State) : s.latched.slot = s.slot := rfl
@[simp] theorem State.latched_rbuf (s : State) : s.latched.rbuf = s.rbuf := rfl
@[simp] theorem State.latched_stream (s : State) : s.latched.stream = s.stream := rfl
@[simp] theorem State.latched_op (s : State) : s.latched.op = s.op := rfl
@[simp] theorem State.latched_arg0 (s : State) : s.latched.arg0 = s.arg0 := rfl
@[simp] theorem State.latched_arg1 (s : State) : s.latched.arg1 = s.arg1 := rfl
@[simp] theorem State.latched_scfg (s : State) : s.latched.scfg = s.scfg := rfl
@[simp] theorem State.latched_rate (s : State) : s.latched.rate = s.rate := rfl
@[simp] theorem State.latched_hiresSup (s : State) : s.latched.hiresSup = s.hiresSup := rfl
@[simp] theorem State.latched_chtab (s : State) : s.latched.chtab = s.chtab := rfl
@[simp] theorem State.latched_calram (s : State) : s.latched.calram = s.calram := rfl
@[simp] theorem State.latched_atr (s : State) : s.latched.atr = scfgTr s.scfg := rfl
@[simp] theorem State.latched_anch (s : State) : s.latched.anch = scfgNch s.scfg := rfl
@[simp] theorem State.latched_acttab (s : State) : s.latched.acttab = latchTable s.chtab (scfgNch s.scfg).toNat := rfl
@[simp] theorem State.latched_pprR (s : State) : s.latched.pprR = BitVec.ofNat 8 (packetsPerRead s.cfg s.rate) := rfl
@[simp] theorem State.latched_pktR (s : State) : s.latched.pktR = BitVec.ofNat 8 (packetSize s.cfg (scfgTr s.scfg)) := rfl
@[simp] theorem State.latched_cfg (s : State) : s.latched.cfg = s.cfg := rfl
@[simp] theorem State.latched_bus (s : State) : s.latched.bus = s.bus := rfl
@[simp] theorem State.latched_reply (s : State) : s.latched.reply = s.reply := rfl

end Sys2Proof.Machine
end

