-- ==== Sys2Proof/Laws/Memory.lean ====
section
/-! SUPPORT. The byte windows: reading after a store, and the canonical form that every store keeps. -/

namespace Sys2Proof.Machine

@[simp] theorem unlistedByte_eq (a : Nat) : unlistedByte a = none := rfl

/-- Since an unlisted offset reads as unwritten, the canonical form is exactly "strictly rising". -/
theorem memoryWf_iff (m : Memory) : memoryWf m = risingFrom 0 m := by
  simp [memoryWf]

theorem risingFrom_mono {lo lo' : Nat} (h : lo' ≤ lo) : ∀ {m : Memory}, risingFrom lo m = true → risingFrom lo' m = true
  | [], _ => rfl
  | (a, b) :: m, hm => by
      simp only [risingFrom, Bool.and_eq_true, decide_eq_true_eq] at hm ⊢
      exact ⟨by omega, hm.2⟩

/-- Every offset of a memory that rises from `lo` is at least `lo`. -/
theorem risingFrom_le : ∀ {lo : Nat} {m : Memory}, risingFrom lo m = true → ∀ c ∈ m, lo ≤ c.1
  | _, [], _, c, hc => by simp at hc
  | lo, (a, b) :: m, hm, c, hc => by
      simp only [risingFrom, Bool.and_eq_true, decide_eq_true_eq] at hm
      rcases List.mem_cons.mp hc with rfl | hc
      · exact hm.1
      · have := risingFrom_le hm.2 c hc
        omega

theorem risingFrom_filter (p : Host.Cell → Bool) :
    ∀ {lo : Nat} {m : Memory}, risingFrom lo m = true → risingFrom lo (m.filter p) = true
  | _, [], _ => rfl
  | lo, (a, b) :: m, hm => by
      simp only [risingFrom, Bool.and_eq_true, decide_eq_true_eq] at hm
      have ih := risingFrom_filter p hm.2
      by_cases hp : p (a, b) = true
      · simp [hp, risingFrom, hm.1, ih]
      · simp only [List.filter_cons, hp]
        exact risingFrom_mono (by omega) ih

/-- Two rising memories, the first wholly below the second, rise together. -/
theorem risingFrom_append {hi : Nat} {m' : Memory} (hm' : risingFrom hi m' = true) :
    ∀ {lo : Nat} {m : Memory}, lo ≤ hi → risingFrom lo m = true → (∀ c ∈ m, c.1 < hi) →
      risingFrom lo (m ++ m') = true
  | lo, [], h, _, _ => risingFrom_mono h hm'
  | lo, (a, b) :: m, h, hm, hlt => by
      simp only [risingFrom, Bool.and_eq_true, decide_eq_true_eq] at hm
      have ha : a < hi := hlt (a, b) (by simp)
      have := risingFrom_append hm' (by omega : a + 1 ≤ hi) hm.2 (fun c hc => hlt c (by simp [hc]))
      simp [risingFrom, hm.1, this]

theorem cellsAt_rising : ∀ (a : Nat) (bs : List Byte), risingFrom a (cellsAt a bs) = true
  | _, [] => rfl
  | a, _ :: bs => by simp [cellsAt, risingFrom, cellsAt_rising (a + 1) bs]

theorem mem_cellsAt : ∀ {a : Nat} {bs : List Byte} {c : Host.Cell}, c ∈ cellsAt a bs → a ≤ c.1 ∧ c.1 < a + bs.length
  | _, [], _, h => by simp [cellsAt] at h
  | a, b :: bs, c, h => by
      simp only [cellsAt, List.mem_cons] at h
      rcases h with rfl | h
      · simp
      · have := mem_cellsAt h
        simp only [List.length_cons]
        omega

theorem risingFrom_of_le {lo : Nat} : ∀ {lo' : Nat} {m : Memory}, risingFrom lo' m = true →
    (∀ c ∈ m, lo ≤ c.1) → risingFrom lo m = true
  | _, [], _, _ => rfl
  | lo', (a, b) :: m, hm, h => by
      simp only [risingFrom, Bool.and_eq_true, decide_eq_true_eq] at hm ⊢
      exact ⟨h (a, b) (by simp), hm.2⟩

/-- A store keeps the canonical form. -/
theorem memoryStore_wf {m : Memory} (a : Nat) (bs : List Byte) (h : memoryWf m = true) :
    memoryWf (memoryStore m a bs) = true := by
  rw [memoryWf_iff] at h ⊢
  have hlow := risingFrom_filter (fun c => decide (c.1 < a)) h
  have hhigh := risingFrom_filter (fun c => decide (a + bs.length ≤ c.1)) h
  have hhigh' : risingFrom (a + bs.length) (m.filter fun c => decide (a + bs.length ≤ c.1)) = true :=
    risingFrom_of_le hhigh fun c hc => by simpa using (List.mem_filter.mp hc).2
  have hmid : risingFrom a (cellsAt a bs ++ m.filter fun c => decide (a + bs.length ≤ c.1)) = true :=
    risingFrom_append hhigh' (by omega) (cellsAt_rising a bs) fun c hc => (mem_cellsAt hc).2
  unfold memoryStore
  rw [List.append_assoc]
  exact risingFrom_append hmid (Nat.zero_le a) hlow fun c hc => by simpa using (List.mem_filter.mp hc).2

theorem memoryGet_append (m m' : Memory) (a : Nat) :
    memoryGet (m ++ m') a = (memoryGet m a).or (memoryGet m' a) := by
  induction m with
  | nil => simp [memoryGet]
  | cons c m ih =>
      obtain ⟨x, b⟩ := c
      by_cases h : x = a <;> simp [memoryGet, h, ih]

theorem memoryGet_filter (p : Nat → Bool) (m : Memory) (a : Nat) :
    memoryGet (m.filter fun c => p c.1) a = if p a then memoryGet m a else none := by
  induction m with
  | nil => simp [memoryGet]
  | cons c m ih =>
      obtain ⟨x, b⟩ := c
      by_cases hx : x = a
      · subst hx
        by_cases hp : p x <;> simp [hp, memoryGet, ih]
      · by_cases hp : p x <;> simp [hp, memoryGet, hx, ih]

theorem memoryGet_cellsAt : ∀ (x : Nat) (bs : List Byte) (a : Nat),
    memoryGet (cellsAt x bs) a = if x ≤ a then bs[a - x]? else none
  | x, [], a => by simp [cellsAt, memoryGet]
  | x, b :: bs, a => by
      rw [cellsAt, memoryGet, memoryGet_cellsAt (x + 1) bs a]
      by_cases h : x = a
      · subst h; simp
      · by_cases hlt : x ≤ a
        · have h1 : x + 1 ≤ a := by omega
          have h2 : a - x = (a - (x + 1)) + 1 := by omega
          simp [h, hlt, h1, h2]
        · have h1 : ¬ x + 1 ≤ a := by omega
          simp [h, hlt, h1]

/-- Reading after a store: the stored bytes where they went, every other byte as before. -/
theorem memoryGet_store (m : Memory) (x : Nat) (bs : List Byte) (a : Nat) :
    memoryGet (memoryStore m x bs) a =
      if x ≤ a ∧ a < x + bs.length then bs[a - x]? else memoryGet m a := by
  unfold memoryStore
  rw [memoryGet_append, memoryGet_append, memoryGet_filter (fun y => decide (y < x)),
    memoryGet_filter (fun y => decide (x + bs.length ≤ y)), memoryGet_cellsAt]
  by_cases h1 : x ≤ a
  · by_cases h2 : a < x + bs.length
    · have : a - x < bs.length := by omega
      simp [h1, h2, Nat.not_lt.mpr h1, List.getElem?_eq_getElem this]
    · have : bs[a - x]? = none := List.getElem?_eq_none (by omega)
      have h3 : x + bs.length ≤ a := by omega
      simp [h2, Nat.not_lt.mpr h1, this, h3]
  · have h2 : a < x := by omega
    have h3 : ¬ x + bs.length ≤ a := by omega
    simp [h1, h2, h3]

/-- The cells of a memory after a store: new ones in the stored range, or old ones. -/
theorem mem_memoryStore {m : Memory} {x : Nat} {bs : List Byte} {c : Host.Cell} (h : c ∈ memoryStore m x bs) :
    c ∈ m ∨ (x ≤ c.1 ∧ c.1 < x + bs.length) := by
  simp only [memoryStore, List.mem_append, List.mem_filter] at h
  rcases h with (h | h) | h
  · exact .inl h.1
  · exact .inr (mem_cellsAt h)
  · exact .inl h.1

end Sys2Proof.Machine
end

