-- ==== Sys2Proof/Laws/Ops.lean ====
section
/-! SUPPORT. The shared operations of Machine/Ops.lean, each said once: how an operation ends, byte order, and what a
store or a host write does to the window. -/

namespace Sys2Proof.Machine

/-! ## How an operation ends -/

@[simp] theorem raise_eq (c : Code) (s : State) : raise c s = .next (s.setCode c) := rfl
@[simp] theorem finish_eq (c : Code) (s : State) : finish c s = .next (s.setCode c) := rfl

/-! ## Updates built from others -/

theorem State.store_eq (s : State) (a : Nat) (bs : List Byte) : s.store a bs = s.setMem (memoryStore s.mem a bs) := rfl
@[simp] theorem State.store_mem (s : State) (a : Nat) (bs : List Byte) : (s.store a bs).mem = memoryStore s.mem a bs := rfl
@[simp] theorem State.store_cfg (s : State) (a : Nat) (bs : List Byte) : (s.store a bs).cfg = s.cfg := rfl
@[simp] theorem State.store_op (s : State) (a : Nat) (bs : List Byte) : (s.store a bs).op = s.op := rfl
@[simp] theorem State.store_code (s : State) (a : Nat) (bs : List Byte) : (s.store a bs).code = s.code := rfl
@[simp] theorem State.store_stream (s : State) (a : Nat) (bs : List Byte) : (s.store a bs).stream = s.stream := rfl
@[simp] theorem State.store_trunc (s : State) (a : Nat) (bs : List Byte) : (s.store a bs).trunc = s.trunc := rfl
@[simp] theorem State.store_scfg (s : State) (a : Nat) (bs : List Byte) : (s.store a bs).scfg = s.scfg := rfl
@[simp] theorem State.store_rate (s : State) (a : Nat) (bs : List Byte) : (s.store a bs).rate = s.rate := rfl
@[simp] theorem State.store_hiresSup (s : State) (a : Nat) (bs : List Byte) : (s.store a bs).hiresSup = s.hiresSup := rfl
@[simp] theorem State.store_arg0 (s : State) (a : Nat) (bs : List Byte) : (s.store a bs).arg0 = s.arg0 := rfl
@[simp] theorem State.store_arg1 (s : State) (a : Nat) (bs : List Byte) : (s.store a bs).arg1 = s.arg1 := rfl
@[simp] theorem State.store_res0 (s : State) (a : Nat) (bs : List Byte) : (s.store a bs).res0 = s.res0 := rfl
@[simp] theorem State.store_res1 (s : State) (a : Nat) (bs : List Byte) : (s.store a bs).res1 = s.res1 := rfl
@[simp] theorem State.store_res2 (s : State) (a : Nat) (bs : List Byte) : (s.store a bs).res2 = s.res2 := rfl
@[simp] theorem State.store_res3 (s : State) (a : Nat) (bs : List Byte) : (s.store a bs).res3 = s.res3 := rfl
@[simp] theorem State.store_pprR (s : State) (a : Nat) (bs : List Byte) : (s.store a bs).pprR = s.pprR := rfl
@[simp] theorem State.store_pktR (s : State) (a : Nat) (bs : List Byte) : (s.store a bs).pktR = s.pktR := rfl
@[simp] theorem State.store_chtab (s : State) (a : Nat) (bs : List Byte) : (s.store a bs).chtab = s.chtab := rfl
@[simp] theorem State.store_calram (s : State) (a : Nat) (bs : List Byte) : (s.store a bs).calram = s.calram := rfl
@[simp] theorem State.store_rbuf (s : State) (a : Nat) (bs : List Byte) : (s.store a bs).rbuf = s.rbuf := rfl
@[simp] theorem State.store_slot (s : State) (a : Nat) (bs : List Byte) : (s.store a bs).slot = s.slot := rfl
@[simp] theorem State.store_acttab (s : State) (a : Nat) (bs : List Byte) : (s.store a bs).acttab = s.acttab := rfl
@[simp] theorem State.store_atr (s : State) (a : Nat) (bs : List Byte) : (s.store a bs).atr = s.atr := rfl
@[simp] theorem State.store_anch (s : State) (a : Nat) (bs : List Byte) : (s.store a bs).anch = s.anch := rfl
@[simp] theorem State.store_draws (s : State) (a : Nat) (bs : List Byte) : (s.store a bs).draws = s.draws := rfl
@[simp] theorem State.store_bus (s : State) (a : Nat) (bs : List Byte) : (s.store a bs).bus = s.bus := rfl
@[simp] theorem State.store_reply (s : State) (a : Nat) (bs : List Byte) : (s.store a bs).reply = s.reply := rfl

@[simp] theorem State.setResFloat_cfg (s : State) (v : F64) : (s.setResFloat v).cfg = s.cfg := rfl
@[simp] theorem State.setResFloat_op (s : State) (v : F64) : (s.setResFloat v).op = s.op := rfl
@[simp] theorem State.setResFloat_code (s : State) (v : F64) : (s.setResFloat v).code = s.code := rfl
@[simp] theorem State.setResFloat_stream (s : State) (v : F64) : (s.setResFloat v).stream = s.stream := rfl
@[simp] theorem State.setResFloat_trunc (s : State) (v : F64) : (s.setResFloat v).trunc = s.trunc := rfl
@[simp] theorem State.setResFloat_scfg (s : State) (v : F64) : (s.setResFloat v).scfg = s.scfg := rfl
@[simp] theorem State.setResFloat_rate (s : State) (v : F64) : (s.setResFloat v).rate = s.rate := rfl
@[simp] theorem State.setResFloat_hiresSup (s : State) (v : F64) : (s.setResFloat v).hiresSup = s.hiresSup := rfl
@[simp] theorem State.setResFloat_arg0 (s : State) (v : F64) : (s.setResFloat v).arg0 = s.arg0 := rfl
@[simp] theorem State.setResFloat_arg1 (s : State) (v : F64) : (s.setResFloat v).arg1 = s.arg1 := rfl
@[simp] theorem State.setResFloat_res2 (s : State) (v : F64) : (s.setResFloat v).res2 = s.res2 := rfl
@[simp] theorem State.setResFloat_res3 (s : State) (v : F64) : (s.setResFloat v).res3 = s.res3 := rfl
@[simp] theorem State.setResFloat_pprR (s : State) (v : F64) : (s.setResFloat v).pprR = s.pprR := rfl
@[simp] theorem State.setResFloat_pktR (s : State) (v : F64) : (s.setResFloat v).pktR = s.pktR := rfl
@[simp] theorem State.setResFloat_chtab (s : State) (v : F64) : (s.setResFloat v).chtab = s.chtab := rfl
@[simp] theorem State.setResFloat_calram (s : State) (v : F64) : (s.setResFloat v).calram = s.calram := rfl
@[simp] theorem State.setResFloat_mem (s : State) (v : F64) : (s.setResFloat v).mem = s.mem := rfl
@[simp] theorem State.setResFloat_rbuf (s : State) (v : F64) : (s.setResFloat v).rbuf = s.rbuf := rfl
@[simp] theorem State.setResFloat_slot (s : State) (v : F64) : (s.setResFloat v).slot = s.slot := rfl
@[simp] theorem State.setResFloat_acttab (s : State) (v : F64) : (s.setResFloat v).acttab = s.acttab := rfl
@[simp] theorem State.setResFloat_atr (s : State) (v : F64) : (s.setResFloat v).atr = s.atr := rfl
@[simp] theorem State.setResFloat_anch (s : State) (v : F64) : (s.setResFloat v).anch = s.anch := rfl
@[simp] theorem State.setResFloat_draws (s : State) (v : F64) : (s.setResFloat v).draws = s.draws := rfl
@[simp] theorem State.setResFloat_bus (s : State) (v : F64) : (s.setResFloat v).bus = s.bus := rfl
@[simp] theorem State.setResFloat_reply (s : State) (v : F64) : (s.setResFloat v).reply = s.reply := rfl
@[simp] theorem State.setResFloat_res0 (s : State) (v : F64) : (s.setResFloat v).res0 = v.extractLsb' 0 32 := rfl
@[simp] theorem State.setResFloat_res1 (s : State) (v : F64) : (s.setResFloat v).res1 = v.extractLsb' 32 32 := rfl
/-- The two result words of an f64, put together again. -/
theorem setResFloat_words (s : State) (v : F64) : (s.setResFloat v).res1 ++ (s.setResFloat v).res0 = v := by
  simp only [State.setResFloat_res0, State.setResFloat_res1]
  ext i hi
  simp only [BitVec.getElem_append, BitVec.getElem_extractLsb']
  split
  · simp [BitVec.getLsbD_eq_getElem hi]
  · rw [show 32 + (i - 32) = i by omega, BitVec.getLsbD_eq_getElem hi]

/-! ## Byte order -/

@[simp] theorem leBytes_length : ∀ n v : Nat, (leBytes n v).length = n
  | 0, _ => rfl
  | n + 1, v => by simp [leBytes, leBytes_length n]

/-- Assembling the bytes of a number gives the number, modulo its width. -/
theorem leNat_leBytes : ∀ n v : Nat, leNat (leBytes n v) = v % 256 ^ n
  | 0, v => by simp [leBytes, leNat, Nat.mod_one]
  | n + 1, v => by
      rw [leBytes, leNat, leNat_leBytes n, BitVec.toNat_ofNat, Nat.pow_succ' (m := 256)]
      exact (Nat.mod_mul (a := 256)).symm

theorem leNat_lt : ∀ bs : List Byte, leNat bs < 256 ^ bs.length
  | [] => by simp [leNat]
  | b :: bs => by
      have h1 := leNat_lt bs
      have h2 := b.isLt
      simp only [leNat, List.length_cons, Nat.pow_succ']
      omega

theorem leBytes_getElem? : ∀ n v i : Nat, (leBytes n v)[i]? = if i < n then some (BitVec.ofNat 8 (v / 256 ^ i)) else none
  | 0, _, _ => by simp [leBytes]
  | n + 1, v, 0 => by simp [leBytes]
  | n + 1, v, i + 1 => by
      simp only [leBytes, List.getElem?_cons_succ, leBytes_getElem? n, Nat.add_lt_add_iff_right, Nat.pow_succ',
        Nat.div_div_eq_div_mul]

/-! ## The window -/

@[simp] theorem drawBytes_length (s : State) (d a n : Nat) : (drawBytes s d a n).length = n := by simp [drawBytes]

theorem drawBytes_getElem? (s : State) (d a n i : Nat) :
    (drawBytes s d a n)[i]? = if i < n then some (drawByte s d (a + i)) else none := by
  by_cases h : i < n <;> simp [drawBytes, h]

/-- A byte that was written is what every read of it draws. -/
theorem drawByte_of_written {s : State} {a : Nat} {b : Byte} (h : memoryGet s.mem a = some b) (d : Nat) :
    drawByte s d a = b := by simp [drawByte, h]

/-- The byte windows are the regions whose bytes memory holds. -/
theorem windowByte_of_region {s : State} {off : Nat}
    (h : regionOf s.cfg off = .fbuf ∨ regionOf s.cfg off = .inbuf ∨ regionOf s.cfg off = .rawout ∨
      regionOf s.cfg off = .outval) : windowByte s off = memoryGet s.mem off := by
  unfold windowByte
  rcases h with h | h | h | h <;> rw [h]

theorem regionWithin_eq (i size : Nat) (r : Region) :
    regionWithin i size r = r ∨ regionWithin i size r = .reserved := by
  unfold regionWithin
  split <;> simp

/-- Beyond offset 0x3F no byte is a control register (R61). -/
theorem regionOf_ne_control {c : Config} {off : Nat} (h : 0x40 ≤ off) : regionOf c off ≠ .control := by
  grind [regionOf, regionWithin]

/-- Beyond the control region the window shows CHTAB, CALRAM and the byte windows, and nothing else of the state. -/
theorem windowByte_congr {s t : State} {off : Nat} (hoff : 0x40 ≤ off) (hcfg : t.cfg = s.cfg)
    (hch : t.chtab = s.chtab) (hcal : t.calram = s.calram) (hmem : memoryGet t.mem off = memoryGet s.mem off) :
    windowByte t off = windowByte s off := by
  have hne : regionOf s.cfg off ≠ .control := regionOf_ne_control hoff
  unfold windowByte
  rw [hcfg, hch, hmem]
  cases h : regionOf s.cfg off <;> simp_all [calByte]

/-- A store changes only the bytes it stores. -/
theorem windowByte_store_other {s : State} {x off : Nat} {bs : List Byte} (hoff : 0x40 ≤ off)
    (h : off < x ∨ x + bs.length ≤ off) : windowByte (s.store x bs) off = windowByte s off := by
  refine windowByte_congr hoff rfl rfl rfl ?_
  rw [State.store_mem, memoryGet_store, if_neg (by omega)]

/-! ## The regions -/

theorem regionOf_fbuf {c : Config} {i : Nat} (h : i < c.maxFrame) (h' : c.maxFrame ≤ 256) :
    regionOf c (fbufBase + i) = .fbuf := by
  generalize hoff : fbufBase + i = off
  unfold fbufBase at hoff
  simp (disch := omega) only [regionOf, regionWithin, if_pos, if_neg]

theorem regionOf_inbuf {c : Config} {i : Nat} (h : i < c.inbufSize) (h' : c.inbufSize ≤ 1024) :
    regionOf c (inbufBase + i) = .inbuf := by
  generalize hoff : inbufBase + i = off
  unfold inbufBase at hoff
  simp (disch := omega) only [regionOf, regionWithin, if_pos, if_neg]

theorem regionOf_rawout {c : Config} {i : Nat} (h : i < c.rawoutSize) (h' : c.rawoutSize ≤ 1024) :
    regionOf c (rawoutBase + i) = .rawout := by
  generalize hoff : rawoutBase + i = off
  unfold rawoutBase at hoff
  simp (disch := omega) only [regionOf, regionWithin, if_pos, if_neg]

theorem regionOf_outval {c : Config} {i : Nat} (h : i < 8 * c.outvalN) (h' : c.outvalN ≤ 128) :
    regionOf c (outvalBase + i) = .outval := by
  generalize hoff : outvalBase + i = off
  unfold outvalBase at hoff
  simp (disch := omega) only [regionOf, regionWithin, if_pos, if_neg]

end Sys2Proof.Machine
end

