-- ==== Sys2Proof/Laws/Exec.lean ====
section
/-! SUPPORT. What each meaning and each shared operation of the three sub-units can do, said once: one lemma per
operation with the cases of its answer. Every answer is a next state. -/

namespace Sys2Proof.Machine

/-! ## CODEC -/

@[simp] theorem State.putFbuf_eq (s : State) (i : Nat) (b : Byte) : s.putFbuf i b = s.store (fbufBase + i) [b] := rfl

theorem reduce8_lt (r : Ck8Reduce) (t : Nat) : reduce8 r t < 256 := by
  cases r <;> simp only [reduce8] <;> omega

theorem ck8_lt (s : State) (d l : Nat) : ck8 s d l < 256 := reduce8_lt _ _

theorem ck16_lt (s : State) (d l : Nat) : ck16 s d l < 65536 := Nat.mod_lt _ (by decide)

/-- The state after the checksum-16 of CK.ENCODE. -/
def afterCk16 (s : State) (l : Nat) (x : Bool) : State := if x then s.putCk16 (ck16 s s.draws l) else s

/-- CK.ENCODE refuses an illegal length, or writes the checksums and RES0. -/
theorem execCkEncode_cases (l : Nat) (x : Bool) (s : State) :
    (frameLenLegal s.cfg l x = false ∧ execCkEncode l x s = .next (s.setCode .badOperand)) ∨
    (frameLenLegal s.cfg l x = true ∧ ∃ c8 c16,
      c16 = (if x then ck16 s s.draws l else 0) ∧ c8 = ck8 (afterCk16 s l x) (s.draws + 1) l ∧
      execCkEncode l x s =
        .next (((((afterCk16 s l x).putFbuf 0 (BitVec.ofNat 8 c8)).setRes0 (checksumWord c8 c16)).drawn 2).setCode .ok)) := by
  cases h : frameLenLegal s.cfg l x
  · exact .inl ⟨rfl, by simp [execCkEncode, h]⟩
  · refine .inr ⟨rfl, _, _, rfl, rfl, ?_⟩
    cases x <;> simp [execCkEncode, h, afterCk16]

/-- The state of CK.DECODE with both checksum pairs and the first mismatching index (or 0) written, before the status. -/
def judgedState (s : State) (l : Nat) (x : Bool) (i : Nat) : State :=
  (s.judged (recomputed s l x) (stored s x) i).drawn 5

/-- CK.DECODE refuses its operands, then the length, then judges the checksums, then the echo. -/
theorem execCkDecode_cases (l : Nat) (x : Bool) (k : Nat) (s : State) :
    ((frameLenLegal s.cfg l x = false ∨ k = 0 ∨ l < k + 1) ∧
      execCkDecode l x k s = .next (s.setCode .badOperand)) ∨
    (frameLenLegal s.cfg l x = true ∧ 1 ≤ k ∧ k < l ∧
      ((receivedLen s.arg1 ≠ l ∧ execCkDecode l x k s = .next (s.setCode .lengthMismatch)) ∨
       (receivedLen s.arg1 = l ∧
        ((recomputed s l x ≠ stored s x ∧
          execCkDecode l x k s = .next ((judgedState s l x 0).setCode .checksumError)) ∨
         (recomputed s l x = stored s x ∧
          ((∃ i, firstMismatch s (s.draws + 4) (List.range' 1 k) = some i ∧
            execCkDecode l x k s =
              .next ((judgedState s l x i).setCode .echoMismatch)) ∨
           (firstMismatch s (s.draws + 4) (List.range' 1 k) = none ∧
            execCkDecode l x k s = .next ((judgedState s l x 0).setCode .ok)))))))) := by
  unfold execCkDecode
  cases hl : frameLenLegal s.cfg l x
  · exact .inl ⟨.inl rfl, by simp⟩
  · by_cases hk : k = 0 ∨ l < k + 1
    · refine .inl ⟨.inr hk, ?_⟩
      rw [if_pos (by rcases hk with hk | hk <;> simp [hk])]; rfl
    · refine .inr ⟨rfl, by omega, by omega, ?_⟩
      rw [if_neg (by simp only [Bool.or_eq_true, beq_iff_eq, decide_eq_true_eq, Bool.not_true]; simp; omega)]
      by_cases hn : receivedLen s.arg1 = l
      · refine .inr ⟨hn, ?_⟩
        rw [if_neg (by simp [hn])]
        by_cases hc : recomputed s l x = stored s x
        · refine .inr ⟨hc, ?_⟩
          simp only [hc, ne_eq, not_true_eq_false, if_false]
          cases hf : firstMismatch s (s.draws + 4) (List.range' 1 k) with
          | none => exact .inr ⟨rfl, by simp [judgedState, hc]⟩
          | some i => exact .inl ⟨i, rfl, by simp [judgedState, hc]⟩
        · refine .inl ⟨hc, ?_⟩
          simp only [ne_eq, hc, not_false_eq_true, if_true, finish_eq]
          rfl
      · refine .inl ⟨hn, ?_⟩
        rw [if_pos hn]; rfl

/-- The first mismatch is the first index of the list whose byte differs. -/
theorem firstMismatch_none {s : State} {d : Nat} {is : List Nat} :
    firstMismatch s d is = none ↔ ∀ i ∈ is, fbufByte s d i = echoByte s.arg0 i := by
  induction is with
  | nil => simp [firstMismatch]
  | cons i is ih =>
      by_cases h : fbufByte s d i = echoByte s.arg0 i <;> simp [firstMismatch, h, ih]

theorem firstMismatch_some {s : State} {d i : Nat} {is : List Nat} (h : firstMismatch s d is = some i) :
    i ∈ is ∧ fbufByte s d i ≠ echoByte s.arg0 i := by
  induction is with
  | nil => simp [firstMismatch] at h
  | cons j is ih =>
      by_cases hj : fbufByte s d j = echoByte s.arg0 j
      · simp only [firstMismatch, hj, if_true] at h
        exact ⟨List.mem_cons_of_mem _ (ih h).1, (ih h).2⟩
      · simp only [firstMismatch, hj, if_false, Option.some.injEq] at h
        exact ⟨by simp [h], h ▸ hj⟩

/-! ## CAL -/

theorem execCvAin_eq (raw g res : Nat) (s : State) :
    execCvAin raw g res s = .next ((s.setResFloat (ain s raw g res)).setCode .ok) := rfl

theorem execCvTemp_eq (raw : Nat) (s : State) :
    execCvTemp raw s = .next ((s.setResFloat (temp s raw)).setCode .ok) := rfl

/-- CV.DAC refuses an absent DAC, or writes the code and the clamp indicator. -/
theorem execCvDac_cases (d : Nat) (s : State) :
    (s.cfg.nDac ≤ d ∧ execCvDac d s = .next (s.setCode .badOperand)) ∨
    (d < s.cfg.nDac ∧ execCvDac d s =
      .next ((s.setRes01 (BitVec.ofNat 32 (dac s (dacVolts s) d).1)
        (BitVec.ofNat 32 (dac s (dacVolts s) d).2)).setCode .ok)) := by
  by_cases h : s.cfg.nDac ≤ d
  · exact .inl ⟨h, by simp [execCvDac, h]⟩
  · exact .inr ⟨by omega, by simp [execCvDac, h]⟩

/-! ## REASM -/

/-- ST.CONFIGURE raises STATE_ERROR or CONFIG_ERROR, or latches. -/
theorem execStConfigure_cases (s : State) :
    (s.stream = .streaming ∧ execStConfigure s = .next (s.setCode .stateError)) ∨
    (s.stream ≠ .streaming ∧ channelsLegal s = false ∧ execStConfigure s = .next (s.setCode .configError)) ∨
    (s.stream ≠ .streaming ∧ channelsLegal s = true ∧
      execStConfigure s = .next (((s.latched.emptied.setTrunc false).setStream .configured).setCode .ok)) := by
  by_cases h : s.stream = .streaming
  · exact .inl ⟨h, by simp [execStConfigure, h]⟩
  · cases hc : channelsLegal s
    · exact .inr (.inl ⟨h, rfl, by simp [execStConfigure, h, hc]⟩)
    · exact .inr (.inr ⟨h, rfl, by simp [execStConfigure, h, hc]⟩)

/-- ST.START raises STATE_ERROR, or enters STREAMING. -/
theorem execStStart_cases (s : State) :
    (s.stream ≠ .configured ∧ execStStart s = .next (s.setCode .stateError)) ∨
    (s.stream = .configured ∧ execStStart s = .next (((s.emptied.setTrunc false).setStream .streaming).setCode .ok)) := by
  by_cases h : s.stream = .configured
  · exact .inr ⟨h, by simp [execStStart, h]⟩
  · exact .inl ⟨h, by simp [execStStart, h]⟩

/-- ST.STOP raises STATE_ERROR, or leaves STREAMING. -/
theorem execStStop_cases (s : State) :
    (s.stream ≠ .streaming ∧ execStStop s = .next (s.setCode .stateError)) ∨
    (s.stream = .streaming ∧ execStStop s = .next ((s.emptied.setStream .configured).setCode .ok)) := by
  by_cases h : s.stream = .streaming
  · exact .inr ⟨h, by simp [execStStop, h]⟩
  · exact .inl ⟨h, by simp [execStStop, h]⟩

/-- The state after PENDING. -/
def pendingState (dropped : Nat) (s : State) : State :=
  (s.setResults (BitVec.ofNat 32 (dropped * 2 ^ 8)) 0 0 0).setCode .pending

theorem pendingBlock_eq (dropped : Nat) (s : State) : pendingBlock dropped s = .next (pendingState dropped s) := rfl

/-- The state after a block is emitted. -/
def emittedState (ps : List (List Byte)) (dropped : Nat) (s : State) : State :=
  (((s.setMem (blockMemory s.cfg s.mem ps (blockValues s ps))).setSlot
    (slotAfter s s.slot (blockSamples s.cfg ps).length)).setBlockResults ps dropped).setCode .ok

theorem emitBlock_eq (ps : List (List Byte)) (dropped : Nat) (s : State) :
    emitBlock ps dropped s = .next (emittedState ps dropped s) := rfl

/-- The usable packets of a local read (R188, R196). -/
def usablePackets (s : State) (m : Nat) : List (List Byte) :=
  (packets s.pktR.toNat (m / s.pktR.toNat) (inbufBytes s s.draws m)).filter fun p => !garbage s.cfg p

/-- The state of a local read with its trailing partial packet noted. -/
def afterTrunc (s : State) (m : Nat) : State := (if m % s.pktR.toNat ≠ 0 then s.setTrunc true else s).drawn 1

/-- The local path refuses a long read, reports PENDING, or emits the usable packets. -/
theorem nextblkLocal_cases (m : Nat) (s : State) :
    (s.pprR.toNat * s.pktR.toNat < m ∧ nextblkLocal m s = .next (s.setCode .badOperand)) ∨
    (m ≤ s.pprR.toNat * s.pktR.toNat ∧ usablePackets s m = [] ∧
      nextblkLocal m s = .next (pendingState (m / s.pktR.toNat) (afterTrunc s m))) ∨
    (m ≤ s.pprR.toNat * s.pktR.toNat ∧ usablePackets s m ≠ [] ∧
      nextblkLocal m s = .next (emittedState (usablePackets s m) (m / s.pktR.toNat - (usablePackets s m).length)
        (afterTrunc s m))) := by
  by_cases h : s.pprR.toNat * s.pktR.toNat < m
  · exact .inl ⟨h, by simp [nextblkLocal, h]⟩
  · by_cases hu : usablePackets s m = []
    · refine .inr (.inl ⟨by omega, hu, ?_⟩)
      have hu' := hu
      unfold usablePackets at hu'
      simp only [nextblkLocal, h, if_false, hu', if_true, List.length_nil, Nat.sub_zero]
      rfl
    · refine .inr (.inr ⟨by omega, hu, ?_⟩)
      have hu' := hu
      unfold usablePackets at hu'
      simp only [nextblkLocal, h, if_false, hu']
      rfl

/-- What the network path holds once the read is appended (R189). -/
def appended (s : State) (m : Nat) : List Byte := s.rbuf ++ inbufBytes s s.draws m

/-- The network path raises OVERFLOW, reports PENDING, or emits some packets and keeps the rest. -/
theorem nextblkNet_cases (m : Nat) (f : Bool) (s : State) :
    (s.cfg.rbufCap < s.rbuf.length + m ∧ nextblkNet m f s = .next (s.setCode .overflow)) ∨
    (s.rbuf.length + m ≤ s.cfg.rbufCap ∧
      netPackets s.pprR.toNat s.pktR.toNat (s.rbuf.length + m) f = none ∧
      nextblkNet m f s = .next (pendingState 0 ((s.setRbuf (appended s m)).drawn 1))) ∨
    (s.rbuf.length + m ≤ s.cfg.rbufCap ∧ ∃ n,
      netPackets s.pprR.toNat s.pktR.toNat (s.rbuf.length + m) f = some n ∧
      nextblkNet m f s = .next (emittedState (packets s.pktR.toNat n (appended s m)) 0
        ((s.setRbuf ((appended s m).drop (n * s.pktR.toNat))).drawn 1))) := by
  have hlen : (s.rbuf ++ inbufBytes s s.draws m).length = s.rbuf.length + m := by simp [inbufBytes]
  by_cases h : s.cfg.rbufCap < s.rbuf.length + m
  · exact .inl ⟨h, by simp [nextblkNet, h]⟩
  · cases hn : netPackets s.pprR.toNat s.pktR.toNat (s.rbuf.length + m) f with
    | none =>
        refine .inr (.inl ⟨by omega, rfl, ?_⟩)
        simp only [nextblkNet, h, if_false, hlen, hn]
        rfl
    | some n =>
        refine .inr (.inr ⟨by omega, n, rfl, ?_⟩)
        simp only [nextblkNet, h, if_false, hlen, hn]
        rfl

/-- ST.NEXTBLK raises STATE_ERROR, then BAD_OPERAND, then takes the path of the latched transport. -/
theorem execStNextblk_cases (m : Nat) (f : Bool) (s : State) :
    (s.stream ≠ .streaming ∧ execStNextblk m f s = .next (s.setCode .stateError)) ∨
    (s.stream = .streaming ∧ s.cfg.inbufSize < m ∧ execStNextblk m f s = .next (s.setCode .badOperand)) ∨
    (s.stream = .streaming ∧ m ≤ s.cfg.inbufSize ∧ s.atr = true ∧ execStNextblk m f s = nextblkNet m f s) ∨
    (s.stream = .streaming ∧ m ≤ s.cfg.inbufSize ∧ s.atr = false ∧ execStNextblk m f s = nextblkLocal m s) := by
  by_cases h : s.stream = .streaming
  · by_cases hm : s.cfg.inbufSize < m
    · exact .inr (.inl ⟨h, hm, by simp [execStNextblk, h, hm]⟩)
    · cases ha : s.atr
      · exact .inr (.inr (.inr ⟨h, by omega, rfl, by simp [execStNextblk, h, hm, ha]⟩))
      · exact .inr (.inr (.inl ⟨h, by omega, rfl, by simp [execStNextblk, h, hm, ha]⟩))
  · exact .inl ⟨h, by simp [execStNextblk, h]⟩

/-- How many packets the network path emits: a full batch, or on a flush every whole packet held. -/
theorem netPackets_some {ppr pkt len n : Nat} {f : Bool} (h : netPackets ppr pkt len f = some n) :
    (ppr * pkt ≤ len ∧ n = ppr) ∨ (len < ppr * pkt ∧ f = true ∧ pkt ≤ len ∧ n = len / pkt) := by
  unfold netPackets at h
  split at h
  · exact .inl ⟨‹_›, by simpa using h.symm⟩
  · split at h
    · rename_i h1 h2
      exact .inr ⟨by omega, h2.1, h2.2, by simpa using h.symm⟩
    · simp at h

/-! ## The bus -/

/-- A write to OP stores the word, then performs what it spells. -/
theorem issue_cases (w : Word) (s : State) :
    (∃ i, decode w = .op i ∧ issue w s = exec i (s.setOp w)) ∨
    (∃ why, decode w = .illegal why ∧ issue w s = .next ((s.setOp w).setCode .illegalOp)) := by
  cases h : decode w with
  | op i => exact .inl ⟨i, rfl, by simp [issue, h]⟩
  | illegal why => exact .inr ⟨why, rfl, by simp [issue, h]⟩

/-- A step takes the head of the bus, or is idle, or rejects the configuration. -/
theorem step_cases (s : State) :
    (s.cfg.legal = false ∧ step s = .refused .illegalConfig) ∨
    (s.cfg.legal = true ∧ s.bus = [] ∧ step s = .next s) ∨
    (s.cfg.legal = true ∧ ∃ ev rest, s.bus = ev :: rest ∧ step s = handle ev (s.setBus rest)) := by
  cases hc : s.cfg.legal
  · exact .inl ⟨rfl, by simp [step, serve, hc]⟩
  · cases hb : s.bus with
    | nil => exact .inr (.inl ⟨rfl, rfl, by simp [step, serve, hc, hb]⟩)
    | cons ev rest => exact .inr (.inr ⟨rfl, ev, rest, rfl, by simp [step, serve, hc, hb]⟩)

/-- When R66 permits an access, and the offset it then has. -/
theorem accessOffset_some {c : Config} {n addr off : Nat} :
    accessOffset c n addr = some off ↔ addr = c.base + off ∧ (n = 1 ∨ n = 2 ∨ n = 4) ∧ off % n = 0 ∧
      off + n ≤ 0x2000 ∧ (off < 0x40 → n = 4) := by
  unfold accessOffset accessPermitted windowSize
  simp only [Option.ite_none_right_eq_some, Bool.and_eq_true, Bool.or_eq_true, beq_iff_eq, decide_eq_true_eq,
    Option.some.injEq]
  constructor
  · rintro ⟨⟨h1, ⟨⟨h2, h3⟩, h4⟩, h5⟩, rfl⟩
    exact ⟨by omega, by omega, h3, h4, by omega⟩
  · rintro ⟨rfl, h2, h3, h4, h5⟩
    have : c.base + off - c.base = off := by omega
    rw [this]
    exact ⟨⟨by omega, ⟨⟨by omega, h3⟩, h4⟩, by omega⟩, rfl⟩

end Sys2Proof.Machine
end

