-- ==== Sys2Proof/Laws/Derived.lean ====
section
/-! SUPPORT. One lemma per field for the larger updates that the meanings are built from: the two ends of ST.NEXTBLK, the
two checksum writers, and the notes a read leaves. They are proved by rewriting layer by layer; unfolding several
updates of a large record at once makes Lean compare the records field by field at every layer. -/

namespace Sys2Proof.Machine

/-! ### `State.judged` -/

@[simp] theorem State.judged_code (s : State) (c t : Nat × Nat) (i : Nat) : (s.judged c t i).code = s.code := by
  rw [State.judged, State.setResults_code]
@[simp] theorem State.judged_draws (s : State) (c t : Nat × Nat) (i : Nat) : (s.judged c t i).draws = s.draws := by
  rw [State.judged, State.setResults_draws]
@[simp] theorem State.judged_res0 (s : State) (c t : Nat × Nat) (i : Nat) :
    (s.judged c t i).res0 = checksumWord c.1 c.2 := by
  rw [State.judged, State.setResults_res0]
@[simp] theorem State.judged_res1 (s : State) (c t : Nat × Nat) (i : Nat) :
    (s.judged c t i).res1 = checksumWord t.1 t.2 := by
  rw [State.judged, State.setResults_res1]
@[simp] theorem State.judged_res2 (s : State) (c t : Nat × Nat) (i : Nat) :
    (s.judged c t i).res2 = BitVec.ofNat 32 i := by
  rw [State.judged, State.setResults_res2]
@[simp] theorem State.judged_res3 (s : State) (c t : Nat × Nat) (i : Nat) : (s.judged c t i).res3 = s.res3 := by
  rw [State.judged, State.setResults_res3]
@[simp] theorem State.judged_mem (s : State) (c t : Nat × Nat) (i : Nat) : (s.judged c t i).mem = s.mem := by
  rw [State.judged, State.setResults_mem]
@[simp] theorem State.judged_trunc (s : State) (c t : Nat × Nat) (i : Nat) : (s.judged c t i).trunc = s.trunc := by
  rw [State.judged, State.setResults_trunc]
@[simp] theorem State.judged_slot (s : State) (c t : Nat × Nat) (i : Nat) : (s.judged c t i).slot = s.slot := by
  rw [State.judged, State.setResults_slot]
@[simp] theorem State.judged_rbuf (s : State) (c t : Nat × Nat) (i : Nat) : (s.judged c t i).rbuf = s.rbuf := by
  rw [State.judged, State.setResults_rbuf]
@[simp] theorem State.judged_stream (s : State) (c t : Nat × Nat) (i : Nat) : (s.judged c t i).stream = s.stream := by
  rw [State.judged, State.setResults_stream]
@[simp] theorem State.judged_op (s : State) (c t : Nat × Nat) (i : Nat) : (s.judged c t i).op = s.op := by
  rw [State.judged, State.setResults_op]
@[simp] theorem State.judged_arg0 (s : State) (c t : Nat × Nat) (i : Nat) : (s.judged c t i).arg0 = s.arg0 := by
  rw [State.judged, State.setResults_arg0]
@[simp] theorem State.judged_arg1 (s : State) (c t : Nat × Nat) (i : Nat) : (s.judged c t i).arg1 = s.arg1 := by
  rw [State.judged, State.setResults_arg1]
@[simp] theorem State.judged_scfg (s : State) (c t : Nat × Nat) (i : Nat) : (s.judged c t i).scfg = s.scfg := by
  rw [State.judged, State.setResults_scfg]
@[simp] theorem State.judged_rate (s : State) (c t : Nat × Nat) (i : Nat) : (s.judged c t i).rate = s.rate := by
  rw [State.judged, State.setResults_rate]
@[simp] theorem State.judged_hiresSup (s : State) (c t : Nat × Nat) (i : Nat) :
    (s.judged c t i).hiresSup = s.hiresSup := by
  rw [State.judged, State.setResults_hiresSup]
@[simp] theorem State.judged_chtab (s : State) (c t : Nat × Nat) (i : Nat) : (s.judged c t i).chtab = s.chtab := by
  rw [State.judged, State.setResults_chtab]
@[simp] theorem State.judged_calram (s : State) (c t : Nat × Nat) (i : Nat) : (s.judged c t i).calram = s.calram := by
  rw [State.judged, State.setResults_calram]
@[simp] theorem State.judged_atr (s : State) (c t : Nat × Nat) (i : Nat) : (s.judged c t i).atr = s.atr := by
  rw [State.judged, State.setResults_atr]
@[simp] theorem State.judged_anch (s : State) (c t : Nat × Nat) (i : Nat) : (s.judged c t i).anch = s.anch := by
  rw [State.judged, State.setResults_anch]
@[simp] theorem State.judged_acttab (s : State) (c t : Nat × Nat) (i : Nat) : (s.judged c t i).acttab = s.acttab := by
  rw [State.judged, State.setResults_acttab]
@[simp] theorem State.judged_pprR (s : State) (c t : Nat × Nat) (i : Nat) : (s.judged c t i).pprR = s.pprR := by
  rw [State.judged, State.setResults_pprR]
@[simp] theorem State.judged_pktR (s : State) (c t : Nat × Nat) (i : Nat) : (s.judged c t i).pktR = s.pktR := by
  rw [State.judged, State.setResults_pktR]
@[simp] theorem State.judged_cfg (s : State) (c t : Nat × Nat) (i : Nat) : (s.judged c t i).cfg = s.cfg := by
  rw [State.judged, State.setResults_cfg]
@[simp] theorem State.judged_bus (s : State) (c t : Nat × Nat) (i : Nat) : (s.judged c t i).bus = s.bus := by
  rw [State.judged, State.setResults_bus]
@[simp] theorem State.judged_reply (s : State) (c t : Nat × Nat) (i : Nat) : (s.judged c t i).reply = s.reply := by
  rw [State.judged, State.setResults_reply]

/-! ### `judgedState` -/

@[simp] theorem judgedState_code (s : State) (l : Nat) (x : Bool) (i : Nat) :
    (judgedState s l x i).code = s.code := by
  rw [judgedState, State.drawn_code, State.judged_code]
@[simp] theorem judgedState_draws (s : State) (l : Nat) (x : Bool) (i : Nat) :
    (judgedState s l x i).draws = s.draws + 5 := by
  rw [judgedState, State.drawn_draws, State.judged_draws]
@[simp] theorem judgedState_res0 (s : State) (l : Nat) (x : Bool) (i : Nat) :
    (judgedState s l x i).res0 = checksumWord (recomputed s l x).1 (recomputed s l x).2 := by
  rw [judgedState, State.drawn_res0, State.judged_res0]
@[simp] theorem judgedState_res1 (s : State) (l : Nat) (x : Bool) (i : Nat) :
    (judgedState s l x i).res1 = checksumWord (stored s x).1 (stored s x).2 := by
  rw [judgedState, State.drawn_res1, State.judged_res1]
@[simp] theorem judgedState_res2 (s : State) (l : Nat) (x : Bool) (i : Nat) :
    (judgedState s l x i).res2 = BitVec.ofNat 32 i := by
  rw [judgedState, State.drawn_res2, State.judged_res2]
@[simp] theorem judgedState_res3 (s : State) (l : Nat) (x : Bool) (i : Nat) :
    (judgedState s l x i).res3 = s.res3 := by
  rw [judgedState, State.drawn_res3, State.judged_res3]
@[simp] theorem judgedState_mem (s : State) (l : Nat) (x : Bool) (i : Nat) : (judgedState s l x i).mem = s.mem := by
  rw [judgedState, State.drawn_mem, State.judged_mem]
@[simp] theorem judgedState_trunc (s : State) (l : Nat) (x : Bool) (i : Nat) :
    (judgedState s l x i).trunc = s.trunc := by
  rw [judgedState, State.drawn_trunc, State.judged_trunc]
@[simp] theorem judgedState_slot (s : State) (l : Nat) (x : Bool) (i : Nat) :
    (judgedState s l x i).slot = s.slot := by
  rw [judgedState, State.drawn_slot, State.judged_slot]
@[simp] theorem judgedState_rbuf (s : State) (l : Nat) (x : Bool) (i : Nat) :
    (judgedState s l x i).rbuf = s.rbuf := by
  rw [judgedState, State.drawn_rbuf, State.judged_rbuf]
@[simp] theorem judgedState_stream (s : State) (l : Nat) (x : Bool) (i : Nat) :
    (judgedState s l x i).stream = s.stream := by
  rw [judgedState, State.drawn_stream, State.judged_stream]
@[simp] theorem judgedState_op (s : State) (l : Nat) (x : Bool) (i : Nat) : (judgedState s l x i).op = s.op := by
  rw [judgedState, State.drawn_op, State.judged_op]
@[simp] theorem judgedState_arg0 (s : State) (l : Nat) (x : Bool) (i : Nat) :
    (judgedState s l x i).arg0 = s.arg0 := by
  rw [judgedState, State.drawn_arg0, State.judged_arg0]
@[simp] theorem judgedState_arg1 (s : State) (l : Nat) (x : Bool) (i : Nat) :
    (judgedState s l x i).arg1 = s.arg1 := by
  rw [judgedState, State.drawn_arg1, State.judged_arg1]
@[simp] theorem judgedState_scfg (s : State) (l : Nat) (x : Bool) (i : Nat) :
    (judgedState s l x i).scfg = s.scfg := by
  rw [judgedState, State.drawn_scfg, State.judged_scfg]
@[simp] theorem judgedState_rate (s : State) (l : Nat) (x : Bool) (i : Nat) :
    (judgedState s l x i).rate = s.rate := by
  rw [judgedState, State.drawn_rate, State.judged_rate]
@[simp] theorem judgedState_hiresSup (s : State) (l : Nat) (x : Bool) (i : Nat) :
    (judgedState s l x i).hiresSup = s.hiresSup := by
  rw [judgedState, State.drawn_hiresSup, State.judged_hiresSup]
@[simp] theorem judgedState_chtab (s : State) (l : Nat) (x : Bool) (i : Nat) :
    (judgedState s l x i).chtab = s.chtab := by
  rw [judgedState, State.drawn_chtab, State.judged_chtab]
@[simp] theorem judgedState_calram (s : State) (l : Nat) (x : Bool) (i : Nat) :
    (judgedState s l x i).calram = s.calram := by
  rw [judgedState, State.drawn_calram, State.judged_calram]
@[simp] theorem judgedState_atr (s : State) (l : Nat) (x : Bool) (i : Nat) : (judgedState s l x i).atr = s.atr := by
  rw [judgedState, State.drawn_atr, State.judged_atr]
@[simp] theorem judgedState_anch (s : State) (l : Nat) (x : Bool) (i : Nat) :
    (judgedState s l x i).anch = s.anch := by
  rw [judgedState, State.drawn_anch, State.judged_anch]
@[simp] theorem judgedState_acttab (s : State) (l : Nat) (x : Bool) (i : Nat) :
    (judgedState s l x i).acttab = s.acttab := by
  rw [judgedState, State.drawn_acttab, State.judged_acttab]
@[simp] theorem judgedState_pprR (s : State) (l : Nat) (x : Bool) (i : Nat) :
    (judgedState s l x i).pprR = s.pprR := by
  rw [judgedState, State.drawn_pprR, State.judged_pprR]
@[simp] theorem judgedState_pktR (s : State) (l : Nat) (x : Bool) (i : Nat) :
    (judgedState s l x i).pktR = s.pktR := by
  rw [judgedState, State.drawn_pktR, State.judged_pktR]
@[simp] theorem judgedState_cfg (s : State) (l : Nat) (x : Bool) (i : Nat) : (judgedState s l x i).cfg = s.cfg := by
  rw [judgedState, State.drawn_cfg, State.judged_cfg]
@[simp] theorem judgedState_bus (s : State) (l : Nat) (x : Bool) (i : Nat) : (judgedState s l x i).bus = s.bus := by
  rw [judgedState, State.drawn_bus, State.judged_bus]
@[simp] theorem judgedState_reply (s : State) (l : Nat) (x : Bool) (i : Nat) :
    (judgedState s l x i).reply = s.reply := by
  rw [judgedState, State.drawn_reply, State.judged_reply]

/-! ### `afterCk16` -/

@[simp] theorem afterCk16_code (s : State) (l : Nat) (x : Bool) : (afterCk16 s l x).code = s.code := by
  cases x <;> simp only [afterCk16, State.putCk16, State.store_code, Bool.false_eq_true, if_false, if_true]
@[simp] theorem afterCk16_draws (s : State) (l : Nat) (x : Bool) : (afterCk16 s l x).draws = s.draws := by
  cases x <;> simp only [afterCk16, State.putCk16, State.store_draws, Bool.false_eq_true, if_false, if_true]
@[simp] theorem afterCk16_res0 (s : State) (l : Nat) (x : Bool) : (afterCk16 s l x).res0 = s.res0 := by
  cases x <;> simp only [afterCk16, State.putCk16, State.store_res0, Bool.false_eq_true, if_false, if_true]
@[simp] theorem afterCk16_res1 (s : State) (l : Nat) (x : Bool) : (afterCk16 s l x).res1 = s.res1 := by
  cases x <;> simp only [afterCk16, State.putCk16, State.store_res1, Bool.false_eq_true, if_false, if_true]
@[simp] theorem afterCk16_res2 (s : State) (l : Nat) (x : Bool) : (afterCk16 s l x).res2 = s.res2 := by
  cases x <;> simp only [afterCk16, State.putCk16, State.store_res2, Bool.false_eq_true, if_false, if_true]
@[simp] theorem afterCk16_res3 (s : State) (l : Nat) (x : Bool) : (afterCk16 s l x).res3 = s.res3 := by
  cases x <;> simp only [afterCk16, State.putCk16, State.store_res3, Bool.false_eq_true, if_false, if_true]
@[simp] theorem afterCk16_trunc (s : State) (l : Nat) (x : Bool) : (afterCk16 s l x).trunc = s.trunc := by
  cases x <;> simp only [afterCk16, State.putCk16, State.store_trunc, Bool.false_eq_true, if_false, if_true]
@[simp] theorem afterCk16_slot (s : State) (l : Nat) (x : Bool) : (afterCk16 s l x).slot = s.slot := by
  cases x <;> simp only [afterCk16, State.putCk16, State.store_slot, Bool.false_eq_true, if_false, if_true]
@[simp] theorem afterCk16_rbuf (s : State) (l : Nat) (x : Bool) : (afterCk16 s l x).rbuf = s.rbuf := by
  cases x <;> simp only [afterCk16, State.putCk16, State.store_rbuf, Bool.false_eq_true, if_false, if_true]
@[simp] theorem afterCk16_stream (s : State) (l : Nat) (x : Bool) : (afterCk16 s l x).stream = s.stream := by
  cases x <;> simp only [afterCk16, State.putCk16, State.store_stream, Bool.false_eq_true, if_false, if_true]
@[simp] theorem afterCk16_op (s : State) (l : Nat) (x : Bool) : (afterCk16 s l x).op = s.op := by
  cases x <;> simp only [afterCk16, State.putCk16, State.store_op, Bool.false_eq_true, if_false, if_true]
@[simp] theorem afterCk16_arg0 (s : State) (l : Nat) (x : Bool) : (afterCk16 s l x).arg0 = s.arg0 := by
  cases x <;> simp only [afterCk16, State.putCk16, State.store_arg0, Bool.false_eq_true, if_false, if_true]
@[simp] theorem afterCk16_arg1 (s : State) (l : Nat) (x : Bool) : (afterCk16 s l x).arg1 = s.arg1 := by
  cases x <;> simp only [afterCk16, State.putCk16, State.store_arg1, Bool.false_eq_true, if_false, if_true]
@[simp] theorem afterCk16_scfg (s : State) (l : Nat) (x : Bool) : (afterCk16 s l x).scfg = s.scfg := by
  cases x <;> simp only [afterCk16, State.putCk16, State.store_scfg, Bool.false_eq_true, if_false, if_true]
@[simp] theorem afterCk16_rate (s : State) (l : Nat) (x : Bool) : (afterCk16 s l x).rate = s.rate := by
  cases x <;> simp only [afterCk16, State.putCk16, State.store_rate, Bool.false_eq_true, if_false, if_true]
@[simp] theorem afterCk16_hiresSup (s : State) (l : Nat) (x : Bool) : (afterCk16 s l x).hiresSup = s.hiresSup := by
  cases x <;> simp only [afterCk16, State.putCk16, State.store_hiresSup, Bool.false_eq_true, if_false, if_true]
@[simp] theorem afterCk16_chtab (s : State) (l : Nat) (x : Bool) : (afterCk16 s l x).chtab = s.chtab := by
  cases x <;> simp only [afterCk16, State.putCk16, State.store_chtab, Bool.false_eq_true, if_false, if_true]
@[simp] theorem afterCk16_calram (s : State) (l : Nat) (x : Bool) : (afterCk16 s l x).calram = s.calram := by
  cases x <;> simp only [afterCk16, State.putCk16, State.store_calram, Bool.false_eq_true, if_false, if_true]
@[simp] theorem afterCk16_atr (s : State) (l : Nat) (x : Bool) : (afterCk16 s l x).atr = s.atr := by
  cases x <;> simp only [afterCk16, State.putCk16, State.store_atr, Bool.false_eq_true, if_false, if_true]
@[simp] theorem afterCk16_anch (s : State) (l : Nat) (x : Bool) : (afterCk16 s l x).anch = s.anch := by
  cases x <;> simp only [afterCk16, State.putCk16, State.store_anch, Bool.false_eq_true, if_false, if_true]
@[simp] theorem afterCk16_acttab (s : State) (l : Nat) (x : Bool) : (afterCk16 s l x).acttab = s.acttab := by
  cases x <;> simp only [afterCk16, State.putCk16, State.store_acttab, Bool.false_eq_true, if_false, if_true]
@[simp] theorem afterCk16_pprR (s : State) (l : Nat) (x : Bool) : (afterCk16 s l x).pprR = s.pprR := by
  cases x <;> simp only [afterCk16, State.putCk16, State.store_pprR, Bool.false_eq_true, if_false, if_true]
@[simp] theorem afterCk16_pktR (s : State) (l : Nat) (x : Bool) : (afterCk16 s l x).pktR = s.pktR := by
  cases x <;> simp only [afterCk16, State.putCk16, State.store_pktR, Bool.false_eq_true, if_false, if_true]
@[simp] theorem afterCk16_cfg (s : State) (l : Nat) (x : Bool) : (afterCk16 s l x).cfg = s.cfg := by
  cases x <;> simp only [afterCk16, State.putCk16, State.store_cfg, Bool.false_eq_true, if_false, if_true]
@[simp] theorem afterCk16_bus (s : State) (l : Nat) (x : Bool) : (afterCk16 s l x).bus = s.bus := by
  cases x <;> simp only [afterCk16, State.putCk16, State.store_bus, Bool.false_eq_true, if_false, if_true]
@[simp] theorem afterCk16_reply (s : State) (l : Nat) (x : Bool) : (afterCk16 s l x).reply = s.reply := by
  cases x <;> simp only [afterCk16, State.putCk16, State.store_reply, Bool.false_eq_true, if_false, if_true]

/-! ### `pendingState` -/

@[simp] theorem pendingState_code (d : Nat) (s : State) : (pendingState d s).code = .pending := by
  rw [pendingState, State.setCode_code]
@[simp] theorem pendingState_draws (d : Nat) (s : State) : (pendingState d s).draws = s.draws := by
  rw [pendingState, State.setCode_draws, State.setResults_draws]
@[simp] theorem pendingState_res0 (d : Nat) (s : State) : (pendingState d s).res0 = BitVec.ofNat 32 (d * 2 ^ 8) := by
  rw [pendingState, State.setCode_res0, State.setResults_res0]
@[simp] theorem pendingState_res1 (d : Nat) (s : State) : (pendingState d s).res1 = 0 := by
  rw [pendingState, State.setCode_res1, State.setResults_res1]
@[simp] theorem pendingState_res2 (d : Nat) (s : State) : (pendingState d s).res2 = 0 := by
  rw [pendingState, State.setCode_res2, State.setResults_res2]
@[simp] theorem pendingState_res3 (d : Nat) (s : State) : (pendingState d s).res3 = 0 := by
  rw [pendingState, State.setCode_res3, State.setResults_res3]
@[simp] theorem pendingState_mem (d : Nat) (s : State) : (pendingState d s).mem = s.mem := by
  rw [pendingState, State.setCode_mem, State.setResults_mem]
@[simp] theorem pendingState_trunc (d : Nat) (s : State) : (pendingState d s).trunc = s.trunc := by
  rw [pendingState, State.setCode_trunc, State.setResults_trunc]
@[simp] theorem pendingState_slot (d : Nat) (s : State) : (pendingState d s).slot = s.slot := by
  rw [pendingState, State.setCode_slot, State.setResults_slot]
@[simp] theorem pendingState_rbuf (d : Nat) (s : State) : (pendingState d s).rbuf = s.rbuf := by
  rw [pendingState, State.setCode_rbuf, State.setResults_rbuf]
@[simp] theorem pendingState_stream (d : Nat) (s : State) : (pendingState d s).stream = s.stream := by
  rw [pendingState, State.setCode_stream, State.setResults_stream]
@[simp] theorem pendingState_op (d : Nat) (s : State) : (pendingState d s).op = s.op := by
  rw [pendingState, State.setCode_op, State.setResults_op]
@[simp] theorem pendingState_arg0 (d : Nat) (s : State) : (pendingState d s).arg0 = s.arg0 := by
  rw [pendingState, State.setCode_arg0, State.setResults_arg0]
@[simp] theorem pendingState_arg1 (d : Nat) (s : State) : (pendingState d s).arg1 = s.arg1 := by
  rw [pendingState, State.setCode_arg1, State.setResults_arg1]
@[simp] theorem pendingState_scfg (d : Nat) (s : State) : (pendingState d s).scfg = s.scfg := by
  rw [pendingState, State.setCode_scfg, State.setResults_scfg]
@[simp] theorem pendingState_rate (d : Nat) (s : State) : (pendingState d s).rate = s.rate := by
  rw [pendingState, State.setCode_rate, State.setResults_rate]
@[simp] theorem pendingState_hiresSup (d : Nat) (s : State) : (pendingState d s).hiresSup = s.hiresSup := by
  rw [pendingState, State.setCode_hiresSup, State.setResults_hiresSup]
@[simp] theorem pendingState_chtab (d : Nat) (s : State) : (pendingState d s).chtab = s.chtab := by
  rw [pendingState, State.setCode_chtab, State.setResults_chtab]
@[simp] theorem pendingState_calram (d : Nat) (s : State) : (pendingState d s).calram = s.calram := by
  rw [pendingState, State.setCode_calram, State.setResults_calram]
@[simp] theorem pendingState_atr (d : Nat) (s : State) : (pendingState d s).atr = s.atr := by
  rw [pendingState, State.setCode_atr, State.setResults_atr]
@[simp] theorem pendingState_anch (d : Nat) (s : State) : (pendingState d s).anch = s.anch := by
  rw [pendingState, State.setCode_anch, State.setResults_anch]
@[simp] theorem pendingState_acttab (d : Nat) (s : State) : (pendingState d s).acttab = s.acttab := by
  rw [pendingState, State.setCode_acttab, State.setResults_acttab]
@[simp] theorem pendingState_pprR (d : Nat) (s : State) : (pendingState d s).pprR = s.pprR := by
  rw [pendingState, State.setCode_pprR, State.setResults_pprR]
@[simp] theorem pendingState_pktR (d : Nat) (s : State) : (pendingState d s).pktR = s.pktR := by
  rw [pendingState, State.setCode_pktR, State.setResults_pktR]
@[simp] theorem pendingState_cfg (d : Nat) (s : State) : (pendingState d s).cfg = s.cfg := by
  rw [pendingState, State.setCode_cfg, State.setResults_cfg]
@[simp] theorem pendingState_bus (d : Nat) (s : State) : (pendingState d s).bus = s.bus := by
  rw [pendingState, State.setCode_bus, State.setResults_bus]
@[simp] theorem pendingState_reply (d : Nat) (s : State) : (pendingState d s).reply = s.reply := by
  rw [pendingState, State.setCode_reply, State.setResults_reply]

/-! ### `State.setBlockResults` -/

@[simp] theorem State.setBlockResults_code (s : State) (ps : List (List Byte)) (dropped : Nat) :
    (s.setBlockResults ps dropped).code = s.code := by
  rw [State.setBlockResults, State.setResults_code]
@[simp] theorem State.setBlockResults_draws (s : State) (ps : List (List Byte)) (dropped : Nat) :
    (s.setBlockResults ps dropped).draws = s.draws := by
  rw [State.setBlockResults, State.setResults_draws]
@[simp] theorem State.setBlockResults_res0 (s : State) (ps : List (List Byte)) (dropped : Nat) :
    (s.setBlockResults ps dropped).res0 = BitVec.ofNat 32 (ps.length + dropped * 2 ^ 8) := by
  rw [State.setBlockResults, State.setResults_res0]
@[simp] theorem State.setBlockResults_res1 (s : State) (ps : List (List Byte)) (dropped : Nat) :
    (s.setBlockResults ps dropped).res1 = BitVec.ofNat 32 (errorSum s.cfg ps) := by
  rw [State.setBlockResults, State.setResults_res1]
@[simp] theorem State.setBlockResults_res2 (s : State) (ps : List (List Byte)) (dropped : Nat) :
    (s.setBlockResults ps dropped).res2 = BitVec.ofNat 32 ((ps.headD []).getD s.cfg.offCtr 0).toNat := by
  rw [State.setBlockResults, State.setResults_res2]
@[simp] theorem State.setBlockResults_res3 (s : State) (ps : List (List Byte)) (dropped : Nat) :
    (s.setBlockResults ps dropped).res3 = BitVec.ofNat 32 (ps.length * s.cfg.spp) := by
  rw [State.setBlockResults, State.setResults_res3]
@[simp] theorem State.setBlockResults_mem (s : State) (ps : List (List Byte)) (dropped : Nat) :
    (s.setBlockResults ps dropped).mem = s.mem := by
  rw [State.setBlockResults, State.setResults_mem]
@[simp] theorem State.setBlockResults_trunc (s : State) (ps : List (List Byte)) (dropped : Nat) :
    (s.setBlockResults ps dropped).trunc = s.trunc := by
  rw [State.setBlockResults, State.setResults_trunc]
@[simp] theorem State.setBlockResults_slot (s : State) (ps : List (List Byte)) (dropped : Nat) :
    (s.setBlockResults ps dropped).slot = s.slot := by
  rw [State.setBlockResults, State.setResults_slot]
@[simp] theorem State.setBlockResults_rbuf (s : State) (ps : List (List Byte)) (dropped : Nat) :
    (s.setBlockResults ps dropped).rbuf = s.rbuf := by
  rw [State.setBlockResults, State.setResults_rbuf]
@[simp] theorem State.setBlockResults_stream (s : State) (ps : List (List Byte)) (dropped : Nat) :
    (s.setBlockResults ps dropped).stream = s.stream := by
  rw [State.setBlockResults, State.setResults_stream]
@[simp] theorem State.setBlockResults_op (s : State) (ps : List (List Byte)) (dropped : Nat) :
    (s.setBlockResults ps dropped).op = s.op := by
  rw [State.setBlockResults, State.setResults_op]
@[simp] theorem State.setBlockResults_arg0 (s : State) (ps : List (List Byte)) (dropped : Nat) :
    (s.setBlockResults ps dropped).arg0 = s.arg0 := by
  rw [State.setBlockResults, State.setResults_arg0]
@[simp] theorem State.setBlockResults_arg1 (s : State) (ps : List (List Byte)) (dropped : Nat) :
    (s.setBlockResults ps dropped).arg1 = s.arg1 := by
  rw [State.setBlockResults, State.setResults_arg1]
@[simp] theorem State.setBlockResults_scfg (s : State) (ps : List (List Byte)) (dropped : Nat) :
    (s.setBlockResults ps dropped).scfg = s.scfg := by
  rw [State.setBlockResults, State.setResults_scfg]
@[simp] theorem State.setBlockResults_rate (s : State) (ps : List (List Byte)) (dropped : Nat) :
    (s.setBlockResults ps dropped).rate = s.rate := by
  rw [State.setBlockResults, State.setResults_rate]
@[simp] theorem State.setBlockResults_hiresSup (s : State) (ps : List (List Byte)) (dropped : Nat) :
    (s.setBlockResults ps dropped).hiresSup = s.hiresSup := by
  rw [State.setBlockResults, State.setResults_hiresSup]
@[simp] theorem State.setBlockResults_chtab (s : State) (ps : List (List Byte)) (dropped : Nat) :
    (s.setBlockResults ps dropped).chtab = s.chtab := by
  rw [State.setBlockResults, State.setResults_chtab]
@[simp] theorem State.setBlockResults_calram (s : State) (ps : List (List Byte)) (dropped : Nat) :
    (s.setBlockResults ps dropped).calram = s.calram := by
  rw [State.setBlockResults, State.setResults_calram]
@[simp] theorem State.setBlockResults_atr (s : State) (ps : List (List Byte)) (dropped : Nat) :
    (s.setBlockResults ps dropped).atr = s.atr := by
  rw [State.setBlockResults, State.setResults_atr]
@[simp] theorem State.setBlockResults_anch (s : State) (ps : List (List Byte)) (dropped : Nat) :
    (s.setBlockResults ps dropped).anch = s.anch := by
  rw [State.setBlockResults, State.setResults_anch]
@[simp] theorem State.setBlockResults_acttab (s : State) (ps : List (List Byte)) (dropped : Nat) :
    (s.setBlockResults ps dropped).acttab = s.acttab := by
  rw [State.setBlockResults, State.setResults_acttab]
@[simp] theorem State.setBlockResults_pprR (s : State) (ps : List (List Byte)) (dropped : Nat) :
    (s.setBlockResults ps dropped).pprR = s.pprR := by
  rw [State.setBlockResults, State.setResults_pprR]
@[simp] theorem State.setBlockResults_pktR (s : State) (ps : List (List Byte)) (dropped : Nat) :
    (s.setBlockResults ps dropped).pktR = s.pktR := by
  rw [State.setBlockResults, State.setResults_pktR]
@[simp] theorem State.setBlockResults_cfg (s : State) (ps : List (List Byte)) (dropped : Nat) :
    (s.setBlockResults ps dropped).cfg = s.cfg := by
  rw [State.setBlockResults, State.setResults_cfg]
@[simp] theorem State.setBlockResults_bus (s : State) (ps : List (List Byte)) (dropped : Nat) :
    (s.setBlockResults ps dropped).bus = s.bus := by
  rw [State.setBlockResults, State.setResults_bus]
@[simp] theorem State.setBlockResults_reply (s : State) (ps : List (List Byte)) (dropped : Nat) :
    (s.setBlockResults ps dropped).reply = s.reply := by
  rw [State.setBlockResults, State.setResults_reply]

/-! ### `emittedState` -/

@[simp] theorem emittedState_code (ps : List (List Byte)) (dropped : Nat) (s : State) :
    (emittedState ps dropped s).code = .ok := by
  rw [emittedState, State.setCode_code]
@[simp] theorem emittedState_draws (ps : List (List Byte)) (dropped : Nat) (s : State) :
    (emittedState ps dropped s).draws = s.draws := by
  rw [emittedState, State.setCode_draws, State.setBlockResults_draws, State.setSlot_draws, State.setMem_draws]
@[simp] theorem emittedState_res0 (ps : List (List Byte)) (dropped : Nat) (s : State) :
    (emittedState ps dropped s).res0 = BitVec.ofNat 32 (ps.length + dropped * 2 ^ 8) := by
  rw [emittedState, State.setCode_res0, State.setBlockResults_res0]
@[simp] theorem emittedState_res1 (ps : List (List Byte)) (dropped : Nat) (s : State) :
    (emittedState ps dropped s).res1 = BitVec.ofNat 32 (errorSum s.cfg ps) := by
  rw [emittedState, State.setCode_res1, State.setBlockResults_res1, State.setSlot_cfg, State.setMem_cfg]
@[simp] theorem emittedState_res2 (ps : List (List Byte)) (dropped : Nat) (s : State) :
    (emittedState ps dropped s).res2 = BitVec.ofNat 32 ((ps.headD []).getD s.cfg.offCtr 0).toNat := by
  rw [emittedState, State.setCode_res2, State.setBlockResults_res2, State.setSlot_cfg, State.setMem_cfg]
@[simp] theorem emittedState_res3 (ps : List (List Byte)) (dropped : Nat) (s : State) :
    (emittedState ps dropped s).res3 = BitVec.ofNat 32 (ps.length * s.cfg.spp) := by
  rw [emittedState, State.setCode_res3, State.setBlockResults_res3, State.setSlot_cfg, State.setMem_cfg]
@[simp] theorem emittedState_mem (ps : List (List Byte)) (dropped : Nat) (s : State) :
    (emittedState ps dropped s).mem = blockMemory s.cfg s.mem ps (blockValues s ps) := by
  rw [emittedState, State.setCode_mem, State.setBlockResults_mem, State.setSlot_mem, State.setMem_mem]
@[simp] theorem emittedState_trunc (ps : List (List Byte)) (dropped : Nat) (s : State) :
    (emittedState ps dropped s).trunc = s.trunc := by
  rw [emittedState, State.setCode_trunc, State.setBlockResults_trunc, State.setSlot_trunc, State.setMem_trunc]
@[simp] theorem emittedState_slot (ps : List (List Byte)) (dropped : Nat) (s : State) :
    (emittedState ps dropped s).slot = slotAfter s s.slot (blockSamples s.cfg ps).length := by
  rw [emittedState, State.setCode_slot, State.setBlockResults_slot, State.setSlot_slot]
@[simp] theorem emittedState_rbuf (ps : List (List Byte)) (dropped : Nat) (s : State) :
    (emittedState ps dropped s).rbuf = s.rbuf := by
  rw [emittedState, State.setCode_rbuf, State.setBlockResults_rbuf, State.setSlot_rbuf, State.setMem_rbuf]
@[simp] theorem emittedState_stream (ps : List (List Byte)) (dropped : Nat) (s : State) :
    (emittedState ps dropped s).stream = s.stream := by
    rw [emittedState, State.setCode_stream, State.setBlockResults_stream, State.setSlot_stream,
    State.setMem_stream]
@[simp] theorem emittedState_op (ps : List (List Byte)) (dropped : Nat) (s : State) :
    (emittedState ps dropped s).op = s.op := by
  rw [emittedState, State.setCode_op, State.setBlockResults_op, State.setSlot_op, State.setMem_op]
@[simp] theorem emittedState_arg0 (ps : List (List Byte)) (dropped : Nat) (s : State) :
    (emittedState ps dropped s).arg0 = s.arg0 := by
  rw [emittedState, State.setCode_arg0, State.setBlockResults_arg0, State.setSlot_arg0, State.setMem_arg0]
@[simp] theorem emittedState_arg1 (ps : List (List Byte)) (dropped : Nat) (s : State) :
    (emittedState ps dropped s).arg1 = s.arg1 := by
  rw [emittedState, State.setCode_arg1, State.setBlockResults_arg1, State.setSlot_arg1, State.setMem_arg1]
@[simp] theorem emittedState_scfg (ps : List (List Byte)) (dropped : Nat) (s : State) :
    (emittedState ps dropped s).scfg = s.scfg := by
  rw [emittedState, State.setCode_scfg, State.setBlockResults_scfg, State.setSlot_scfg, State.setMem_scfg]
@[simp] theorem emittedState_rate (ps : List (List Byte)) (dropped : Nat) (s : State) :
    (emittedState ps dropped s).rate = s.rate := by
  rw [emittedState, State.setCode_rate, State.setBlockResults_rate, State.setSlot_rate, State.setMem_rate]
@[simp] theorem emittedState_hiresSup (ps : List (List Byte)) (dropped : Nat) (s : State) :
    (emittedState ps dropped s).hiresSup = s.hiresSup := by
    rw [emittedState, State.setCode_hiresSup, State.setBlockResults_hiresSup, State.setSlot_hiresSup,
    State.setMem_hiresSup]
@[simp] theorem emittedState_chtab (ps : List (List Byte)) (dropped : Nat) (s : State) :
    (emittedState ps dropped s).chtab = s.chtab := by
  rw [emittedState, State.setCode_chtab, State.setBlockResults_chtab, State.setSlot_chtab, State.setMem_chtab]
@[simp] theorem emittedState_calram (ps : List (List Byte)) (dropped : Nat) (s : State) :
    (emittedState ps dropped s).calram = s.calram := by
    rw [emittedState, State.setCode_calram, State.setBlockResults_calram, State.setSlot_calram,
    State.setMem_calram]
@[simp] theorem emittedState_atr (ps : List (List Byte)) (dropped : Nat) (s : State) :
    (emittedState ps dropped s).atr = s.atr := by
  rw [emittedState, State.setCode_atr, State.setBlockResults_atr, State.setSlot_atr, State.setMem_atr]
@[simp] theorem emittedState_anch (ps : List (List Byte)) (dropped : Nat) (s : State) :
    (emittedState ps dropped s).anch = s.anch := by
  rw [emittedState, State.setCode_anch, State.setBlockResults_anch, State.setSlot_anch, State.setMem_anch]
@[simp] theorem emittedState_acttab (ps : List (List Byte)) (dropped : Nat) (s : State) :
    (emittedState ps dropped s).acttab = s.acttab := by
    rw [emittedState, State.setCode_acttab, State.setBlockResults_acttab, State.setSlot_acttab,
    State.setMem_acttab]
@[simp] theorem emittedState_pprR (ps : List (List Byte)) (dropped : Nat) (s : State) :
    (emittedState ps dropped s).pprR = s.pprR := by
  rw [emittedState, State.setCode_pprR, State.setBlockResults_pprR, State.setSlot_pprR, State.setMem_pprR]
@[simp] theorem emittedState_pktR (ps : List (List Byte)) (dropped : Nat) (s : State) :
    (emittedState ps dropped s).pktR = s.pktR := by
  rw [emittedState, State.setCode_pktR, State.setBlockResults_pktR, State.setSlot_pktR, State.setMem_pktR]
@[simp] theorem emittedState_cfg (ps : List (List Byte)) (dropped : Nat) (s : State) :
    (emittedState ps dropped s).cfg = s.cfg := by
  rw [emittedState, State.setCode_cfg, State.setBlockResults_cfg, State.setSlot_cfg, State.setMem_cfg]
@[simp] theorem emittedState_bus (ps : List (List Byte)) (dropped : Nat) (s : State) :
    (emittedState ps dropped s).bus = s.bus := by
  rw [emittedState, State.setCode_bus, State.setBlockResults_bus, State.setSlot_bus, State.setMem_bus]
@[simp] theorem emittedState_reply (ps : List (List Byte)) (dropped : Nat) (s : State) :
    (emittedState ps dropped s).reply = s.reply := by
  rw [emittedState, State.setCode_reply, State.setBlockResults_reply, State.setSlot_reply, State.setMem_reply]

/-! ### `afterTrunc` -/

@[simp] theorem afterTrunc_code (s : State) (m : Nat) : (afterTrunc s m).code = s.code := by
  simp only [afterTrunc, State.drawn_code]; split <;> simp only [State.setTrunc_code]
@[simp] theorem afterTrunc_draws (s : State) (m : Nat) : (afterTrunc s m).draws = s.draws + 1 := by
  simp only [afterTrunc, State.drawn_draws]; split <;> simp only [State.setTrunc_draws]
@[simp] theorem afterTrunc_res0 (s : State) (m : Nat) : (afterTrunc s m).res0 = s.res0 := by
  simp only [afterTrunc, State.drawn_res0]; split <;> simp only [State.setTrunc_res0]
@[simp] theorem afterTrunc_res1 (s : State) (m : Nat) : (afterTrunc s m).res1 = s.res1 := by
  simp only [afterTrunc, State.drawn_res1]; split <;> simp only [State.setTrunc_res1]
@[simp] theorem afterTrunc_res2 (s : State) (m : Nat) : (afterTrunc s m).res2 = s.res2 := by
  simp only [afterTrunc, State.drawn_res2]; split <;> simp only [State.setTrunc_res2]
@[simp] theorem afterTrunc_res3 (s : State) (m : Nat) : (afterTrunc s m).res3 = s.res3 := by
  simp only [afterTrunc, State.drawn_res3]; split <;> simp only [State.setTrunc_res3]
@[simp] theorem afterTrunc_mem (s : State) (m : Nat) : (afterTrunc s m).mem = s.mem := by
  simp only [afterTrunc, State.drawn_mem]; split <;> simp only [State.setTrunc_mem]
@[simp] theorem afterTrunc_trunc (s : State) (m : Nat) :
    (afterTrunc s m).trunc = (s.trunc || decide (m % s.pktR.toNat ≠ 0)) := by
  by_cases h : m % s.pktR.toNat = 0 <;> simp [afterTrunc, h]
@[simp] theorem afterTrunc_slot (s : State) (m : Nat) : (afterTrunc s m).slot = s.slot := by
  simp only [afterTrunc, State.drawn_slot]; split <;> simp only [State.setTrunc_slot]
@[simp] theorem afterTrunc_rbuf (s : State) (m : Nat) : (afterTrunc s m).rbuf = s.rbuf := by
  simp only [afterTrunc, State.drawn_rbuf]; split <;> simp only [State.setTrunc_rbuf]
@[simp] theorem afterTrunc_stream (s : State) (m : Nat) : (afterTrunc s m).stream = s.stream := by
  simp only [afterTrunc, State.drawn_stream]; split <;> simp only [State.setTrunc_stream]
@[simp] theorem afterTrunc_op (s : State) (m : Nat) : (afterTrunc s m).op = s.op := by
  simp only [afterTrunc, State.drawn_op]; split <;> simp only [State.setTrunc_op]
@[simp] theorem afterTrunc_arg0 (s : State) (m : Nat) : (afterTrunc s m).arg0 = s.arg0 := by
  simp only [afterTrunc, State.drawn_arg0]; split <;> simp only [State.setTrunc_arg0]
@[simp] theorem afterTrunc_arg1 (s : State) (m : Nat) : (afterTrunc s m).arg1 = s.arg1 := by
  simp only [afterTrunc, State.drawn_arg1]; split <;> simp only [State.setTrunc_arg1]
@[simp] theorem afterTrunc_scfg (s : State) (m : Nat) : (afterTrunc s m).scfg = s.scfg := by
  simp only [afterTrunc, State.drawn_scfg]; split <;> simp only [State.setTrunc_scfg]
@[simp] theorem afterTrunc_rate (s : State) (m : Nat) : (afterTrunc s m).rate = s.rate := by
  simp only [afterTrunc, State.drawn_rate]; split <;> simp only [State.setTrunc_rate]
@[simp] theorem afterTrunc_hiresSup (s : State) (m : Nat) : (afterTrunc s m).hiresSup = s.hiresSup := by
  simp only [afterTrunc, State.drawn_hiresSup]; split <;> simp only [State.setTrunc_hiresSup]
@[simp] theorem afterTrunc_chtab (s : State) (m : Nat) : (afterTrunc s m).chtab = s.chtab := by
  simp only [afterTrunc, State.drawn_chtab]; split <;> simp only [State.setTrunc_chtab]
@[simp] theorem afterTrunc_calram (s : State) (m : Nat) : (afterTrunc s m).calram = s.calram := by
  simp only [afterTrunc, State.drawn_calram]; split <;> simp only [State.setTrunc_calram]
@[simp] theorem afterTrunc_atr (s : State) (m : Nat) : (afterTrunc s m).atr = s.atr := by
  simp only [afterTrunc, State.drawn_atr]; split <;> simp only [State.setTrunc_atr]
@[simp] theorem afterTrunc_anch (s : State) (m : Nat) : (afterTrunc s m).anch = s.anch := by
  simp only [afterTrunc, State.drawn_anch]; split <;> simp only [State.setTrunc_anch]
@[simp] theorem afterTrunc_acttab (s : State) (m : Nat) : (afterTrunc s m).acttab = s.acttab := by
  simp only [afterTrunc, State.drawn_acttab]; split <;> simp only [State.setTrunc_acttab]
@[simp] theorem afterTrunc_pprR (s : State) (m : Nat) : (afterTrunc s m).pprR = s.pprR := by
  simp only [afterTrunc, State.drawn_pprR]; split <;> simp only [State.setTrunc_pprR]
@[simp] theorem afterTrunc_pktR (s : State) (m : Nat) : (afterTrunc s m).pktR = s.pktR := by
  simp only [afterTrunc, State.drawn_pktR]; split <;> simp only [State.setTrunc_pktR]
@[simp] theorem afterTrunc_cfg (s : State) (m : Nat) : (afterTrunc s m).cfg = s.cfg := by
  simp only [afterTrunc, State.drawn_cfg]; split <;> simp only [State.setTrunc_cfg]
@[simp] theorem afterTrunc_bus (s : State) (m : Nat) : (afterTrunc s m).bus = s.bus := by
  simp only [afterTrunc, State.drawn_bus]; split <;> simp only [State.setTrunc_bus]
@[simp] theorem afterTrunc_reply (s : State) (m : Nat) : (afterTrunc s m).reply = s.reply := by
  simp only [afterTrunc, State.drawn_reply]; split <;> simp only [State.setTrunc_reply]

end Sys2Proof.Machine
end

