-- ==== Sys2Proof/Laws/Window.lean ====
section
/-! SUPPORT. What a legal configuration gives (`00_scope.md` R8), and how the window, its written bytes and the reads of
an operation fit together. -/

namespace Sys2Proof.Machine

/-- The constraints of a legal configuration, as propositions (R8). -/
theorem legal_facts {c : Config} (h : c.legal = true) :
    c.base % windowSize = 0 ∧ c.offCtr ≠ c.offErr ∧ c.offCtr ≠ c.offEmpty ∧ c.offErr ≠ c.offEmpty ∧
    c.offCtr < c.offSamples ∧ c.offErr < c.offSamples ∧ c.offEmpty < c.offSamples ∧
    c.offSamples + 2 * c.spp ≤ c.pktLocal ∧ c.pktLocal ≤ c.pktNet ∧ c.pktNet ≤ 255 ∧
    1 ≤ c.pprLo ∧ c.pprLo ≤ c.pprHi ∧ c.pprHi ≤ 255 ∧ 6 ≤ c.maxFrame ∧ c.maxFrame ≤ 256 ∧
    c.pprHi * c.pktLocal ≤ c.inbufSize ∧ c.inbufSize ≤ 1024 ∧ c.pprHi * c.pktNet ≤ c.rawoutSize ∧
    c.rawoutSize ≤ 1024 ∧ c.pprHi * c.spp ≤ c.outvalN ∧ c.outvalN ≤ 128 ∧
    c.inbufSize + c.pprHi * c.pktNet ≤ c.rbufCap ∧ c.rbufCap ≤ 4095 ∧ 1 ≤ c.maxCh ∧ c.maxCh ≤ 16 ∧
    1 ≤ c.nDac ∧ c.nDac ≤ 2 ∧ 1 ≤ c.dacBits ∧ c.dacBits ≤ 32 ∧ 2 ≤ c.shortMinLen := by
  simp only [Config.legal, Config.offsetsLegal, Config.sizesLegal, Bool.and_eq_true,
    decide_eq_true_eq] at h
  tauto

/-- A packet holds at least its three interpreted bytes. -/
theorem pktLocal_pos {c : Config} (h : c.legal = true) : 0 < c.pktLocal := by
  have := legal_facts h
  omega

/-- The bytes `bs` are written at `off`, byte by byte. -/
theorem windowHolds_iff {s : State} {off : Nat} {bs : List Byte} :
    windowHolds s off bs = true ↔ ∀ i, i < bs.length → windowByte s (off + i) = bs[i]? := by
  simp [windowHolds]

theorem windowHolds_cons {s : State} {off : Nat} {b : Byte} {bs : List Byte} :
    windowHolds s off (b :: bs) = true ↔ windowByte s off = some b ∧ windowHolds s (off + 1) bs = true := by
  rw [windowHolds_iff, windowHolds_iff]
  constructor
  · intro h
    refine ⟨by simpa using h 0 (by simp), fun i hi => ?_⟩
    have := h (i + 1) (by simpa using hi)
    rw [show off + 1 + i = off + (i + 1) by omega, this]
    simp
  · rintro ⟨h0, h⟩ i hi
    cases i with
    | zero => simpa using h0
    | succ i =>
        have := h i (by simpa using hi)
        rw [show off + (i + 1) = off + 1 + i by omega, this]
        simp

/-- The window beyond the control region, when memory reads the same. -/
theorem windowByte_of_get {s t : State} (hcfg : t.cfg = s.cfg) (hch : t.chtab = s.chtab) (hcal : t.calram = s.calram)
    {off : Nat} (hoff : 0x40 ≤ off) (hmem : memoryGet t.mem off = memoryGet s.mem off) :
    windowByte t off = windowByte s off := windowByte_congr hoff hcfg hch hcal hmem

/-- FBUF bytes below MAX_FRAME are memory bytes. -/
theorem windowByte_fbuf {s : State} (h : s.cfg.legal = true) {i : Nat} (hi : i < s.cfg.maxFrame) :
    windowByte s (0x400 + i) = memoryGet s.mem (0x400 + i) :=
  windowByte_of_region (.inl (regionOf_fbuf hi (by have := legal_facts h; omega)))

/-- INBUF bytes below INBUF_SIZE are memory bytes. -/
theorem windowByte_inbuf {s : State} (h : s.cfg.legal = true) {i : Nat} (hi : i < s.cfg.inbufSize) :
    windowByte s (0x800 + i) = memoryGet s.mem (0x800 + i) :=
  windowByte_of_region (.inr (.inl (regionOf_inbuf hi (by have := legal_facts h; omega))))

/-- RAWOUT bytes below RAWOUT_SIZE are memory bytes. -/
theorem windowByte_rawout {s : State} (h : s.cfg.legal = true) {i : Nat} (hi : i < s.cfg.rawoutSize) :
    windowByte s (0xC00 + i) = memoryGet s.mem (0xC00 + i) :=
  windowByte_of_region (.inr (.inr (.inl (regionOf_rawout hi (by have := legal_facts h; omega)))))

/-- OUTVAL bytes below 8*OUTVAL_N are memory bytes. -/
theorem windowByte_outval {s : State} (h : s.cfg.legal = true) {i : Nat} (hi : i < 8 * s.cfg.outvalN) :
    windowByte s (0x1000 + i) = memoryGet s.mem (0x1000 + i) :=
  windowByte_of_region (.inr (.inr (.inr (regionOf_outval hi (by have := legal_facts h; omega)))))

/-- A CALRAM offset outside the absent DACs' entries (R38, R61). -/
theorem regionOf_calram {c : Config} {off : Nat} (h : 0x100 ≤ off) (h' : off < 0x328)
    (hd : off < 0x300 + 16 * c.nDac ∨ 0x320 ≤ off) : regionOf c off = .calram := by
  unfold regionOf regionWithin
  rw [if_neg (by omega), if_neg (by omega), if_neg (by omega), if_pos h']
  by_cases hm : 0x300 ≤ off ∧ off < 0x320
  · rw [if_pos hm, if_pos (by omega)]
  · rw [if_neg hm]

/-- The calibration byte that the window shows is the one the conversions read. -/
theorem windowByte_calram {s : State} {off : Nat} (h : 0x100 ≤ off) (h' : off < 0x328)
    (hd : off < 0x300 + 16 * s.cfg.nDac ∨ 0x320 ≤ off) : windowByte s off = some (calByte s off) := by
  unfold windowByte
  rw [regionOf_calram h h' hd]

/-- A CALRAM constant whose bytes stand in the window is the f64 that a conversion reads (R64). -/
theorem calFloat_of_window {s : State} {off : Nat} {v : F64} (h : 0x100 ≤ off) (h' : off + 8 ≤ 0x328)
    (hd : off + 8 ≤ 0x300 + 16 * s.cfg.nDac ∨ 0x320 ≤ off) (hw : windowHolds s off (leBytes 8 v.toNat) = true) :
    calFloat s off = v := by
  rw [windowHolds_iff] at hw
  have hb : (List.range 8).map (fun i => calByte s (off + i)) = leBytes 8 v.toNat := by
    apply List.ext_getElem?
    intro i
    by_cases hi : i < 8
    · have h1 := hw i (by simpa using hi)
      rw [windowByte_calram (by omega) (by omega) (by omega)] at h1
      rw [← h1]
      simp [hi]
    · rw [List.getElem?_eq_none (by simp; omega), List.getElem?_eq_none (by simp; omega)]
  rw [calFloat, hb, leNat_leBytes]
  have := v.isLt
  simp [Nat.mod_eq_of_lt this]

/-- A read of FBUF, INBUF, RAWOUT or OUTVAL bytes that are all written gives them (R52). -/
theorem drawBytes_of_written {s : State} {a : Nat} {bs : List Byte} (d : Nat)
    (h : ∀ i, i < bs.length → memoryGet s.mem (a + i) = bs[i]?) : drawBytes s d a bs.length = bs := by
  apply List.ext_getElem?
  intro i
  rw [drawBytes_getElem?]
  by_cases hi : i < bs.length
  · have := h i hi
    rw [if_pos hi, List.getElem?_eq_getElem hi] at *
    rw [drawByte_of_written this]
  · rw [if_neg hi, List.getElem?_eq_none (by omega)]

/-- A read of INBUF bytes that are all written gives them. -/
theorem inbufBytes_of_window {s : State} (hc : s.cfg.legal = true) {bs : List Byte} (d : Nat)
    (hl : bs.length ≤ s.cfg.inbufSize) (h : windowHolds s 0x800 bs = true) : inbufBytes s d bs.length = bs := by
  rw [windowHolds_iff] at h
  refine drawBytes_of_written d fun i hi => ?_
  rw [← h i hi, windowByte_inbuf hc (by omega)]
  rfl

end Sys2Proof.Machine
end

