-- ==== Sys2Proof/Laws/Packets.lean ====
section
/-! SUPPORT. Packets, samples and the windows of a block (`42_stream.md` R188 to R193): lengths, and every packet and every
value by its index. -/

namespace Sys2Proof.Machine

@[simp] theorem packets_length (pkt : Nat) : ∀ (n : Nat) (bs : List Byte), (packets pkt n bs).length = n
  | 0, _ => rfl
  | n + 1, bs => by simp [packets, packets_length pkt n]

/-- Packet `k` is bytes k*PKT to k*PKT + PKT - 1 (R190). -/
theorem packets_getElem? (pkt : Nat) : ∀ (n : Nat) (bs : List Byte) (k : Nat),
    (packets pkt n bs)[k]? = if k < n then some ((bs.drop (k * pkt)).take pkt) else none
  | 0, _, _ => by simp [packets]
  | n + 1, bs, 0 => by simp [packets]
  | n + 1, bs, k + 1 => by
      simp only [packets, List.getElem?_cons_succ, packets_getElem? pkt n, Nat.add_lt_add_iff_right, List.drop_drop,
        Nat.add_mul, Nat.one_mul, Nat.add_comm]

/-- The packets put end to end are the bytes they were cut from. -/
theorem packets_flatten (pkt : Nat) : ∀ (n : Nat) (bs : List Byte), n * pkt ≤ bs.length →
    (packets pkt n bs).flatten = bs.take (n * pkt)
  | 0, _, _ => by simp [packets]
  | n + 1, bs, h => by
      have h' : n * pkt ≤ (bs.drop pkt).length := by
        rw [Nat.succ_mul] at h
        simp only [List.length_drop]
        omega
      rw [packets, List.flatten_cons, packets_flatten pkt n _ h', Nat.succ_mul, Nat.add_comm, List.take_add]

/-- Every packet cut from enough bytes is whole. -/
theorem packets_whole (pkt : Nat) : ∀ (n : Nat) (bs : List Byte), n * pkt ≤ bs.length →
    ∀ p ∈ packets pkt n bs, p.length = pkt
  | 0, _, _, p, hp => by simp [packets] at hp
  | n + 1, bs, h, p, hp => by
      rw [Nat.succ_mul] at h
      rcases List.mem_cons.mp hp with rfl | hp
      · simp only [List.length_take]
        omega
      · exact packets_whole pkt n _ (by simp only [List.length_drop]; omega) p hp

/-- Whole packets put end to end. -/
theorem flatten_length_of_whole {pkt : Nat} : ∀ {ps : List (List Byte)}, (∀ p ∈ ps, p.length = pkt) →
    ps.flatten.length = ps.length * pkt
  | [], _ => by simp
  | p :: ps, h => by
      have ih := flatten_length_of_whole (ps := ps) fun q hq => h q (by simp [hq])
      simp only [List.flatten_cons, List.length_append, List.length_cons, h p (by simp), ih, Nat.succ_mul]
      omega

@[simp] theorem blockSamples_length (c : Config) (ps : List (List Byte)) :
    (blockSamples c ps).length = ps.length * c.spp := by
  induction ps with
  | nil => simp [blockSamples]
  | cons p ps ih =>
      simp only [blockSamples, List.flatMap_cons, List.length_append] at ih ⊢
      rw [ih]
      simp only [packetSamples, List.length_map, List.length_range, List.length_cons, Nat.succ_mul]
      omega

/-- Raw sample `k` of a block is sample k mod SPP of packet k / SPP (R191, R192). -/
theorem blockSamples_getElem? (c : Config) : ∀ (ps : List (List Byte)) (k : Nat), k < ps.length * c.spp →
    (blockSamples c ps)[k]? = some (le16 (ps.getD (k / c.spp) []) (c.offSamples + 2 * (k % c.spp)))
  | [], k, h => by simp at h
  | p :: ps, k, h => by
      have hs : 0 < c.spp := by
        rcases Nat.eq_zero_or_pos c.spp with h0 | h0
        · simp [h0] at h
        · exact h0
      have hlen : (packetSamples c p).length = c.spp := by simp [packetSamples]
      have hcons : blockSamples c (p :: ps) = packetSamples c p ++ blockSamples c ps := by
        simp [blockSamples]
      rw [hcons]
      by_cases hk : k < c.spp
      · rw [List.getElem?_append_left (by omega), Nat.div_eq_of_lt hk, Nat.mod_eq_of_lt hk]
        simp [packetSamples, hk]
      · have hk' : k - c.spp < ps.length * c.spp := by
          simp only [List.length_cons, Nat.succ_mul] at h
          omega
        rw [List.getElem?_append_right (by omega), hlen, blockSamples_getElem? c ps _ hk']
        have hdiv : k / c.spp = (k - c.spp) / c.spp + 1 := by
          rw [← Nat.add_div_right _ hs, Nat.sub_add_cancel (by omega)]
        have hmod : (k - c.spp) % c.spp = k % c.spp := by
          conv_rhs => rw [← Nat.sub_add_cancel (by omega : c.spp ≤ k), Nat.add_mod_right]
        rw [hdiv, hmod]
        simp

@[simp] theorem convSamples_length (s : State) : ∀ (slot : BitVec 4) (raws : List Nat),
    (convSamples s slot raws).length = raws.length
  | _, [] => rfl
  | slot, _ :: raws => by simp [convSamples, convSamples_length s _ raws]

theorem nextSlot_toNat {s : State} (h : s.anch.toNat ≤ 16) (slot : BitVec 4) (h0 : 0 < s.anch.toNat) :
    (nextSlot s slot).toNat = (slot.toNat + 1) % s.anch.toNat := by
  have := Nat.mod_lt (slot.toNat + 1) h0
  simp only [nextSlot, BitVec.toNat_ofNat]
  omega

/-- SLOT after `n` samples: round robin (R191, R192). -/
theorem slotAfter_toNat {s : State} (h : s.anch.toNat ≤ 16) (h0 : 0 < s.anch.toNat) :
    ∀ (n : Nat) (slot : BitVec 4), slot.toNat < s.anch.toNat →
      (slotAfter s slot n).toNat = (slot.toNat + n) % s.anch.toNat
  | 0, slot, hs => by simp [slotAfter, Nat.mod_eq_of_lt hs]
  | n + 1, slot, hs => by
      have hn := nextSlot_toNat h slot h0
      rw [slotAfter, slotAfter_toNat h h0 n _ (by rw [hn]; exact Nat.mod_lt _ h0), hn, Nat.mod_add_mod]
      congr 1
      omega

/-- Value `k` of a block: the conversion of raw sample `k` by the entry of its slot (R191, R193). -/
theorem convSamples_getElem? {s : State} (h : s.anch.toNat ≤ 16) (h0 : 0 < s.anch.toNat) :
    ∀ (raws : List Nat) (slot : BitVec 4) (k : Nat), slot.toNat < s.anch.toNat →
      (convSamples s slot raws)[k]? =
        raws[k]?.map fun raw => conv s (tableEntry s.acttab ((slot.toNat + k) % s.anch.toNat)) raw
  | [], _, _, _ => by simp [convSamples]
  | raw :: raws, slot, 0, hs => by simp [convSamples, Nat.mod_eq_of_lt hs]
  | raw :: raws, slot, k + 1, hs => by
      have hn := nextSlot_toNat h slot h0
      simp only [convSamples, List.getElem?_cons_succ]
      rw [convSamples_getElem? h h0 raws _ k (by rw [hn]; exact Nat.mod_lt _ h0), hn, Nat.mod_add_mod]
      rw [show slot.toNat + 1 + k = slot.toNat + (k + 1) by omega]

@[simp] theorem valueBytes_length (vs : List F64) : (valueBytes vs).length = 8 * vs.length := by
  induction vs with
  | nil => simp [valueBytes]
  | cons v vs ih =>
      simp only [valueBytes, List.flatMap_cons, List.length_append, leBytes_length, List.length_cons] at ih ⊢
      omega

/-- Byte `i` of value `k` in OUTVAL's bytes (R44). -/
theorem valueBytes_getElem? : ∀ (vs : List F64) (k i : Nat) (v : F64), i < 8 → vs[k]? = some v →
    (valueBytes vs)[8 * k + i]? = (leBytes 8 v.toNat)[i]?
  | [], _, _, _, _, h => by simp at h
  | w :: vs, 0, i, v, hi, h => by
      simp only [List.getElem?_cons_zero, Option.some.injEq] at h
      subst h
      simp only [valueBytes, List.flatMap_cons, Nat.mul_zero, Nat.zero_add]
      exact List.getElem?_append_left (by simpa using hi)
  | w :: vs, k + 1, i, v, hi, h => by
      simp only [List.getElem?_cons_succ] at h
      have ih := valueBytes_getElem? vs k i v hi h
      simp only [valueBytes, List.flatMap_cons] at ih ⊢
      rw [List.getElem?_append_right (by rw [leBytes_length]; omega), leBytes_length, ← ih]
      congr 1
      omega

/-- Memory after a block's two stores (R191). -/
theorem memoryGet_blockMemory (c : Config) (m : Memory) (ps : List (List Byte)) (vs : List F64) (a : Nat) :
    memoryGet (blockMemory c m ps vs) a =
      if 0x1000 ≤ a ∧ a < 0x1000 + min (8 * c.outvalN) (8 * vs.length) then (valueBytes vs)[a - 0x1000]?
      else if 0xC00 ≤ a ∧ a < 0xC00 + min c.rawoutSize ps.flatten.length then ps.flatten[a - 0xC00]?
      else memoryGet m a := by
  simp only [blockMemory, memoryGet_store, outvalBase, rawoutBase, List.length_take, valueBytes_length]
  split
  · rw [List.getElem?_take_of_lt (by omega)]
  · split
    · rw [List.getElem?_take_of_lt (by omega)]
    · rfl

end Sys2Proof.Machine
end

