-- ==== Sys2Proof/Laws/PerInstr.lean ====
section
/-! SUPPORT. The family of statements made once per operation of the opcode map (LAWS.json). -/

namespace Sys2Proof.Laws

/-- The number that `encodeNat` gives a well-formed instruction fits one operation word (`30_encoding.md` R90), so
`encode` drops no bit of it. -/
def EncodeBound.Statement (i : Instr) : Prop := i.WellFormed → encodeNat i < 2 ^ 32

theorem EncodeBound.ckEncode (l : Nat) (x : Bool) : EncodeBound.Statement (.ckEncode l x) := by
  intro h
  have hx := Bool.toNat_le x
  simp only [Instr.WellFormed, Instr.wellFormed, decide_eq_true_eq] at h
  simp only [encodeNat]
  omega

theorem EncodeBound.ckDecode (l : Nat) (x : Bool) (k : Nat) : EncodeBound.Statement (.ckDecode l x k) := by
  intro h
  have hx := Bool.toNat_le x
  simp only [Instr.WellFormed, Instr.wellFormed, Bool.and_eq_true, decide_eq_true_eq] at h
  simp only [encodeNat]
  omega

theorem EncodeBound.stConfigure : EncodeBound.Statement .stConfigure := fun _ => by decide

theorem EncodeBound.stStart : EncodeBound.Statement .stStart := fun _ => by decide

theorem EncodeBound.stNextblk (m : Nat) (f : Bool) : EncodeBound.Statement (.stNextblk m f) := by
  intro h
  have hf := Bool.toNat_le f
  simp only [Instr.WellFormed, Instr.wellFormed, decide_eq_true_eq] at h
  simp only [encodeNat]
  omega

theorem EncodeBound.stStop : EncodeBound.Statement .stStop := fun _ => by decide

theorem EncodeBound.cvAin (raw g res : Nat) : EncodeBound.Statement (.cvAin raw g res) := by
  intro h
  simp only [Instr.WellFormed, Instr.wellFormed, Bool.and_eq_true, decide_eq_true_eq] at h
  simp only [encodeNat]
  omega

theorem EncodeBound.cvTemp (raw : Nat) : EncodeBound.Statement (.cvTemp raw) := by
  intro h
  simp only [Instr.WellFormed, Instr.wellFormed, decide_eq_true_eq] at h
  simp only [encodeNat]
  omega

theorem EncodeBound.cvDac (d : Nat) : EncodeBound.Statement (.cvDac d) := by
  intro h
  simp only [Instr.WellFormed, Instr.wellFormed, decide_eq_true_eq] at h
  simp only [encodeNat]
  omega

end Sys2Proof.Laws
end

