-- ==== Sys2Proof/Tests/Slice0.lean ====
section
/-! SUPPORT. The model's own tests. First the well-formedness checks, the decoding of written-out words and one-step
tests whose expected values stand in `95_test_vectors.md`; then, for every obligation with hypotheses, a theorem
`witness_<Name>` with a concrete state and operands that meet them, at the boundaries of each clause. -/

namespace Sys2Proof.Tests

set_option Elab.async false

open Sys2Proof Sys2Proof.Machine

/-! ## Well-formedness: each check refuses an ill-formed term -/

theorem test_ill_formed_ckEncode_length : (Instr.ckEncode 512 false).wellFormed = false := by decide
theorem test_ill_formed_ckDecode_length : (Instr.ckDecode 512 false 1).wellFormed = false := by decide
theorem test_ill_formed_ckDecode_echo : (Instr.ckDecode 10 true 4).wellFormed = false := by decide
theorem test_ill_formed_stNextblk_bytes : (Instr.stNextblk 2048 false).wellFormed = false := by decide
theorem test_ill_formed_cvAin_raw : (Instr.cvAin 65536 0 0).wellFormed = false := by decide
theorem test_ill_formed_cvAin_gain : (Instr.cvAin 0 16 0).wellFormed = false := by decide
theorem test_ill_formed_cvAin_resolution : (Instr.cvAin 0 0 32).wellFormed = false := by decide
theorem test_ill_formed_cvTemp_raw : (Instr.cvTemp 65536).wellFormed = false := by decide
theorem test_ill_formed_cvDac_channel : (Instr.cvDac 2).wellFormed = false := by decide

/-- R109: the assembler refuses what does not fit. -/
theorem test_assembler_refuses : assemble (.ckEncode 512 true) = none := by decide

/-- The parameter values of R7, with a calibration image of zeros in place of the open NOMINAL. -/
def lab : Config := { Config.spec with nominal := Vector.replicate calramSize 0, maxWait := 0 }

theorem test_spec_parameters_are_legal : Config.spec.legal = true ∧ lab.legal = true := by decide +kernel

theorem test_illegal_base : ({ lab with base := 0x1000 } : Config).legal = false := by decide +kernel

/-- One configuration for each line of `Config.offsetsLegal`. -/
theorem test_illegal_offsets :
    ([{ lab with offCtr := 11 }, { lab with offCtr := 3 }, { lab with offErr := 3 }, { lab with offCtr := 12 },
      { lab with offErr := 12 }, { lab with offEmpty := 12 }] : List Config).all (fun c => !c.legal) = true := by
  decide +kernel

/-- Packet, batch and frame sizes, one configuration for each line of `Config.sizesLegal`. -/
theorem test_illegal_sizes :
    ([{ lab with pktLocal := 43 }, { lab with netTrailer := 210, pprHi := 4, rbufCap := 4000 }, { lab with pprLo := 0 },
      { lab with pprLo := 9 }, { lab with maxFrame := 5 }, { lab with maxFrame := 257 },
      { lab with inbufSize := 367 }, { lab with inbufSize := 1025 }, { lab with rawoutSize := 383 },
      { lab with rawoutSize := 1025 }, { lab with outvalN := 127 }, { lab with outvalN := 129 },
      { lab with rbufCap := 1407 }, { lab with rbufCap := 4096 }] : List Config).all (fun c => !c.legal) = true := by
  decide +kernel

/-- Channel, DAC and remaining bounds. PKT_LOCAL <= PKT_NET cannot fail, since PKT_NET is a sum. -/
theorem test_illegal_channels_and_dacs :
    ([{ lab with maxCh := 0 }, { lab with maxCh := 17 }, { lab with nDac := 0 }, { lab with nDac := 3 },
      { lab with dacBits := 0 }, { lab with dacBits := 33 }, { lab with shortMinLen := 1 },
      { lab with spp := 0, offSamples := 4, offCtr := 0, offErr := 1, pktLocal := 4, netTrailer := 0, pprHi := 256 }]
      : List Config).all (fun c => !c.legal) = true := by
  decide +kernel

/-! ## Decoding: words written out from the encodings of `30_encoding.md` R91 to R97 -/

/-- OPC 0001, X = 1, K = 00, L = 0 0000 1010. -/
theorem test_decode_ckEncode :
    decode 0b000000000000000_000001010_0_00_1_0001#32 = .op (.ckEncode 10 true) := by decide
/-- OPC 0010, X = 1, K = 11, L = 0 0000 1010. -/
theorem test_decode_ckDecode :
    decode 0b000000000000000_000001010_0_11_1_0010#32 = .op (.ckDecode 10 true 3) := by decide
theorem test_decode_stConfigure : decode 0x00000003#32 = .op .stConfigure := by decide
theorem test_decode_stStart : decode 0x00000004#32 = .op .stStart := by decide
/-- OPC 0101, F = 1, M = 000 0010 1000. -/
theorem test_decode_stNextblk :
    decode 0b0000000000000_00000101000_000_1_0101#32 = .op (.stNextblk 40 true) := by decide
theorem test_decode_stStop : decode 0x00000006#32 = .op .stStop := by decide
/-- OPC 0111, G = 0011, RES = 0 1100, RAW = 0xA000. -/
theorem test_decode_cvAin :
    decode 0b1010000000000000_000_01100_0011_0111#32 = .op (.cvAin 40960 3 12) := by decide
/-- OPC 1000, RAW = 0x9600. -/
theorem test_decode_cvTemp : decode 0b1001011000000000_000000000000_1000#32 = .op (.cvTemp 38400) := by decide
/-- OPC 1001, D = 1. -/
theorem test_decode_cvDac : decode 0b000000000000000000000000000_1_1001#32 = .op (.cvDac 1) := by decide

/-- The illegal words of `95_test_vectors.md` 2.4, and a K field in CK.ENCODE (CK-E11). -/
theorem test_decode_illegal_words :
    ([0x00000000, 0x0000000A, 0x0000000F, 0x00000013, 0x00000014, 0x00000025, 0x00080005, 0xA0002C07, 0x96000018,
      0x00000029, 0x00000A31, 0x00000A92] : List Word).all
      (fun w => match decode w with | .op _ => false | .illegal _ => true) = true := by
  decide

/-! ## One step on a small state -/

/-- The state after a result, and whether it meets `p`; a stop meets nothing. -/
def nextWith (r : Result) (p : State → Bool) : Bool :=
  match r with
  | .next t => p t
  | _ => false

theorem nextWith_spec {r : Result} {p : State → Bool} (h : nextWith r p = true) : ∃ t, r = .next t ∧ p t = true := by
  cases r with
  | next t => exact ⟨t, rfl, h⟩
  | fault f => simp [nextWith] at h
  | refused f => simp [nextWith] at h

/-- The reset state of `lab`, as the host has prepared it: bytes placed in windows, tables or calibration RAM. -/
def bench (places : List (Nat × List Byte)) : State :=
  places.foldl (fun s p => putBytes s p.1 p.2) (State.resetOf lab)

/-- The frame that vector CK-E1 completes. -/
def frameE1 : List Byte := [0x17, 0xF8, 0x02, 0x08, 0x0A, 0x00, 0x01, 0x02, 0x03, 0x04]

/-- The state before CK-E1: bytes 0, 4 and 5 are unwritten. -/
def beforeE1 : State := bench [(0x401, [0xF8, 0x02, 0x08]), (0x406, [0x01, 0x02, 0x03, 0x04])]

/-- The start of the CK-D vectors. -/
def beforeD1 : State := { bench [(0x400, frameE1)] with arg0 := 0x000802F8, arg1 := 10 }

/-- CK-E1. -/
theorem test_ckEncode_extended :
    nextWith (exec (.ckEncode 10 true) beforeE1) (fun t => t.code == .ok && t.res0 == 0x000A0017 &&
      windowHolds t 0x400 frameE1) = true := by decide +kernel

/-- CK-E4. -/
theorem test_ckEncode_short :
    nextWith (exec (.ckEncode 4 false) (bench [(0x401, [0x11, 0x22, 0x33])])) (fun t => t.code == .ok &&
      t.res0 == 0x66 && windowHolds t 0x400 [0x66, 0x11, 0x22, 0x33]) = true := by decide +kernel

/-- CK-D4: one flipped payload bit. -/
theorem test_ckDecode_checksum_error :
    nextWith (exec (.ckDecode 10 true 3) (putByte beforeD1 0x407 0x03)) (fun t => t.code == .checksumError &&
      t.res0 == 0x000B0018 && t.res1 == 0x000A0017 && t.res2 == 0) = true := by decide +kernel

/-- CK-D6: the third echo byte differs. -/
theorem test_ckDecode_echo_mismatch :
    nextWith (exec (.ckDecode 10 true 3) { beforeD1 with arg0 := 0x000902F8 }) (fun t => t.code == .echoMismatch &&
      t.res1 == 0x000A0017 && t.res2 == 3) = true := by decide +kernel

/-- Two channels on the network transport, ANALOG and RAW; slot 2 has the reserved KIND 3 (ST-8). -/
def beforeConfigure : State :=
  { bench [(0x40, [0xC0, 0x00, 0x00, 0x02, 0x00, 0x06])] with scfg := 0x85, rate := 200 }

/-- ST-8 and ST-10. -/
theorem test_stConfigure_latches :
    nextWith (exec .stConfigure beforeConfigure) (fun t => statusWord t == 0x10 && t.pprR == 8 && t.pktR == 48 &&
      t.anch == 2 && t.atr && tableEntry t.acttab 1 == 0x200 && tableEntry t.acttab 2 == 0) = true := by decide +kernel

/-- ST-7: a reserved KIND in a configured slot. -/
theorem test_stConfigure_refuses_reserved_kind :
    nextWith (exec .stConfigure { beforeConfigure with scfg := 0xC7 }) (fun t => statusWord t == 0x06 && t.pprR == 0)
      = true := by decide +kernel

/-- A block that streams two channels, ANALOG and RAW, with PPR = 4, what RBUF holds and what the host has placed. -/
def running (net : Bool) (held : List Byte) (places : List (Nat × List Byte)) : State :=
  { bench places with
    stream := .streaming
    atr := net
    anch := 2
    acttab := Vector.ofFn fun i => if i.val = 0 then 0x0C0 else if i.val = 1 then 0x200 else 0
    pprR := 4
    pktR := if net then 48 else 46
    rbuf := held }

/-- ST-14. -/
theorem test_stStart_enters_streaming :
    nextWith (exec .stStart { running true [] [] with stream := .configured, trunc := true })
      (fun t => statusWord t == 0x20 && t.rbuf == [] && t.slot == 0) = true := by decide +kernel

/-- ST-1. -/
theorem test_stStart_needs_a_configuration :
    nextWith (exec .stStart (bench [])) (fun t => statusWord t == 0x05) = true := by decide +kernel

/-- ST-17; TRUNC is kept (R186). -/
theorem test_stStop_discards_the_leftover :
    nextWith (exec .stStop { running true (List.replicate 30 7) [] with trunc := true })
      (fun t => statusWord t == 0x50 && t.rbuf == []) = true := by decide +kernel

/-- ST-13. -/
theorem test_stStop_outside_streaming :
    nextWith (exec .stStop { running true [] [] with stream := .configured }) (fun t => statusWord t == 0x15)
      = true := by decide +kernel

/-- Such a block after the host has placed one read in INBUF. -/
def reading (net : Bool) (held input : List Byte) : State :=
  (running net held []).setMem (cellsAt inbufBase input)

/-- A packet of `pkt` bytes with empty marker 0xC0, counter `k` and samples 40960 and 7 in turn. -/
def goodPacket (pkt : Nat) (k : Byte) : List Byte :=
  [0, 0, 0, 0xC0, 0, 0, 0, 0, 0, 0, k, 1] ++ (List.replicate 8 [0x00, 0xA0, 0x07, 0x00]).flatten ++
    List.replicate (pkt - 44) 0

/-- A garbage packet of the local transport (R196). -/
def garbagePacket : List Byte := List.replicate 46 0

/-- NB-N2, with the packet's contents: 47 bytes held and 1 byte read complete one packet, which the flush emits. -/
theorem test_stNextblk_network_flush :
    nextWith (exec (.stNextblk 1 true) (reading true ((goodPacket 48 9).take 47) [0]))
      (fun t => statusWord t == 0x20 && t.rbuf == [] && t.res0 == 1 && t.res1 == 1 && t.res2 == 9 && t.res3 == 16 &&
        t.slot == 0 && windowHolds t 0xC00 (goodPacket 48 9) && windowHolds t 0x1008 (leBytes 8 0x401C000000000000))
      = true := by decide +kernel

/-- NB-L3: good, garbage, good, good. -/
theorem test_stNextblk_local_drops_garbage :
    nextWith (exec (.stNextblk 184 false) (reading false [] (goodPacket 46 1 ++ garbagePacket ++ goodPacket 46 2 ++
      goodPacket 46 3))) (fun t => statusWord t == 0x20 && t.res0 == 0x103 && t.res2 == 1) = true := by decide +kernel

/-- `95_test_vectors.md` 2.6, no fusion: 3 times 0.1 rounds before the offset is added. -/
theorem test_cvAin_does_not_fuse :
    nextWith (exec (.cvAin 3 3 0) (bench [(0x130, leBytes 8 0x3FB999999999999A), (0x138, leBytes 8 0xBFD3333333333334)]))
      (fun t => t.code == .ok && t.res0 == 0 && t.res1 == 0) = true := by decide +kernel

/-- `95_test_vectors.md` 2.6: 65535 with the high-resolution pair gives 7.999755859375. -/
theorem test_cvAin_selects_the_hires_pair :
    nextWith (exec (.cvAin 65535 0 18) { bench [(0x200, leBytes 8 0x3F30000000000000),
      (0x208, leBytes 8 0xC020000000000000)] with hiresSup := true })
      (fun t => t.code == .ok && t.res1 == 0x401FFFC0 && t.res0 == 0) = true := by decide +kernel

/-- `95_test_vectors.md` 2.7: 38400 gives 300.0. -/
theorem test_cvTemp_scales :
    nextWith (exec (.cvTemp 38400) (bench [(0x320, leBytes 8 0x3F80000000000000)]))
      (fun t => t.code == .ok && t.res1 == 0x4072C000 && t.res0 == 0) = true := by decide +kernel

/-- The constants of `95_test_vectors.md` 2.8, and a voltage in ARG1 and ARG0. -/
def beforeDac (hi lo : Word) : State :=
  { bench [(0x300, leBytes 8 0x408F400000000000), (0x308, leBytes 8 0x3FE0000000000000)] with arg1 := hi, arg0 := lo }

/-- `95_test_vectors.md` 2.8: 65.5345 gives 65534, in range. -/
theorem test_cvDac_truncates :
    nextWith (exec (.cvDac 0) (beforeDac 0x40506235 0x3F7CED91))
      (fun t => t.code == .ok && t.res0 == 65534 && t.res1 == 0) = true := by decide +kernel

/-- `95_test_vectors.md` 2.8: 65.5349 clamps high. -/
theorem test_cvDac_clamps :
    nextWith (exec (.cvDac 0) (beforeDac 0x4050623B 0xCD35A858))
      (fun t => t.code == .ok && t.res0 == 0xFFFF && t.res1 == 2) = true := by decide +kernel

/-! ### The bus -/

/-- A state with one bus event to come. -/
def facing (ev : BusEvent) (s : State) : State := s.withScript [ev]

/-- `95_test_vectors.md` 2.5. -/
theorem test_refused_accesses :
    nextWith (step (facing (.read 4 0x802) (bench []))) (fun t => t.reply == .busError) = true ∧
    nextWith (step (facing (.write 2 0x004 0) (bench []))) (fun t => t.reply == .busError) = true ∧
    nextWith (step (facing (.write 1 0x000 0x03) (bench []))) (fun t => t.reply == .busError && t.op == 0) = true := by
  decide +kernel

/-- `95_test_vectors.md` 2.5: reserved space reads 0, a read-only register ignores the write, and a 16-bit read of FBUF
sees two bytes. -/
theorem test_permitted_accesses :
    nextWith (step (facing (.read 4 0x060) (bench []))) (fun t => t.reply == .data 0) = true ∧
    nextWith (step (facing (.write 4 0x020 5) (bench []))) (fun t => t.reply == .ack && t.res0 == 0) = true ∧
    nextWith (step (facing (.read 2 0x404) beforeD1)) (fun t => t.reply == .data 0x000A) = true := by
  decide +kernel

/-- The first operation after reset: CK.ENCODE 10, 1 with an unwritten frame ends OK, and OP holds the word. -/
theorem test_first_operation_after_reset :
    nextWith (step (State.reset.withFetchWord 32 0x00000A11)) (fun t => t.code == .ok && t.op == 0xA11) = true := by
  decide +kernel

/-- A configuration that breaks R8 is rejected. -/
theorem test_illegal_configuration_is_refused :
    (match step (State.resetOf { lab with maxFrame := 5 }) with
     | .refused r => decide (r = .illegalConfig)
     | _ => false) = true := by decide +kernel


/-! ## Witnesses: a concrete case meets the hypotheses of each obligation -/

/-! ### Encoding -/

/-- Every operand at the largest value of its field, and at 0. -/
theorem witness_DecodeOfEncodeIsTheInstruction :
    ([.ckEncode 511 true, .ckDecode 511 true 3, .stConfigure, .stStart, .stNextblk 2047 true, .stStop,
      .cvAin 65535 15 31, .cvTemp 65535, .cvDac 1, .ckEncode 0 false, .ckDecode 0 false 0, .stNextblk 0 false,
      .cvAin 0 0 0, .cvTemp 0, .cvDac 0] : List Instr).all Instr.wellFormed = true := by decide

theorem witness_LegalWordIsItsEncoding :
    decode 0x00000A72#32 = .op (.ckDecode 10 true 3) ∧ decode 0xFFFFFFF7#32 = .illegal .reservedBit ∧
    decode 0xFFFF1FF7#32 = .op (.cvAin 65535 15 31) := by decide

/-- One row that the word matches, and one that it does not. -/
theorem witness_MaskAndMatchDecideOperation :
    (9, 0xFFFFFFEF#32, 0x9#32) ∈ opcodeTable ∧ 0x19#32 &&& 0xFFFFFFEF#32 = 0x9#32 ∧
    0x29#32 &&& 0xFFFFFFEF#32 ≠ 0x9#32 := by decide

/-- Opcodes 0, 0xA and 0xF. -/
theorem witness_ReservedOpcodeRaisesIllegalOp :
    ([0x00000000, 0xFFFFFFFA, 0x0000000F] : List Word).all (fun w =>
      let s := facing (.write 4 lab.base w) (bench [])
      s.cfg.legal && s.bus == [.write 4 s.cfg.base w] && (w.toNat % 16 == 0 || decide (10 ≤ w.toNat % 16))) = true := by
  decide +kernel

/-- A set reserved bit, in IDLE and in STREAMING. -/
theorem witness_ReservedBitRaisesIllegalOp :
    (0x14#32).toNat % 16 = 4 ∧ (4, 0xFFFFFFFF#32, 0x4#32) ∈ opcodeTable ∧ 0x14#32 &&& 0xFFFFFFFF#32 ≠ 0x4#32 ∧
    ([bench [], running true [] []] : List State).all (fun s0 =>
      let s := facing (.write 4 lab.base 0x14) s0
      s.cfg.legal && s.bus == [.write 4 s.cfg.base 0x14]) = true := by
  decide +kernel

/-! ### The bus -/

/-- A configuration with a window away from address 0. -/
def high : Config := { lab with base := 0x4000 }

theorem witness_StepPerformsDecodedOperation :
    let s := facing (.write 4 0x4000 0x00000A11) (State.resetOf high)
    s.cfg.legal = true ∧ s.bus = [.write 4 s.cfg.base 0x00000A11] ∧ decode 0x00000A11#32 = .op (.ckEncode 10 true) := by
  decide +kernel

/-- Each clause: below BASE, width 3, width 0, misaligned, at and across the window's end, and a narrow access to the
first and last control register. -/
theorem witness_RefusedAccessIsABusError :
    high.legal = true ∧ (0x3FFF < high.base) ∧ (3 ≠ 1 ∧ 3 ≠ 2 ∧ 3 ≠ 4) ∧ (0 ≠ 1 ∧ 0 ≠ 2 ∧ 0 ≠ 4) ∧
    (0x4802 - high.base) % 4 ≠ 0 ∧ (0x6000 - high.base) % 4 = 0 ∧ 0x2000 < 0x6000 - high.base + 4 ∧
    0x2000 < 0x6000 - high.base + 1 ∧ (0x4000 - high.base < 0x40 ∧ 1 ≠ 4) ∧ (0x403E - high.base < 0x40 ∧ 2 ≠ 4) := by
  decide +kernel

/-- The permitted accesses at the edges: the first and the last control register, the first byte after them, and the
window's last word and last byte. -/
theorem witness_ReadHasNoSideEffect :
    high.legal = true ∧ ([(4, 0x00), (4, 0x3C), (1, 0x40), (4, 0x1FFC), (1, 0x1FFF)] : List (Nat × Nat)).all
      (fun p => (p.1 == 1 || p.1 == 2 || p.1 == 4) && p.2 % p.1 == 0 && decide (p.2 + p.1 ≤ 0x2000) &&
        (decide (0x40 ≤ p.2) || p.1 == 4) && decide ((facing (.read p.1 (high.base + p.2)) (State.resetOf high)).bus =
          [.read p.1 (high.base + p.2)])) = true := by
  decide +kernel

/-- FBUF, the calibration RAM, a channel table entry and reserved space, at each width. -/
theorem witness_ReadAssemblesBytesLittleEndian :
    ([(0x404, [0x0A, 0x00]), (0x400, [0x17, 0xF8, 0x02, 0x08]), (0x409, [0x04]), (0x40, [0x00, 0x00]),
      (0x1FFC, [0, 0, 0, 0])] : List (Nat × List Byte)).all (fun p =>
        let s := facing (.read p.2.length (lab.base + p.1)) beforeD1
        s.cfg.legal && s.bus == [.read p.2.length (s.cfg.base + p.1)] &&
        (p.2.length == 1 || p.2.length == 2 || p.2.length == 4) && p.1 % p.2.length == 0 && decide (0x40 ≤ p.1) &&
        decide (p.1 + p.2.length ≤ 0x2000) && windowHolds s p.1 p.2) = true := by
  decide +kernel

/-- A state in which the control words differ; the reserved word 0x1C alone reads 0. -/
def allWords : State :=
  { running true [1, 2] [] with
    trunc := true, code := .pending, op := 0x6405, scfg := 0x7FF, rate := 0xFFFFFFFE, hiresSup := true, slot := 15
    arg0 := 0x14, arg1 := 0x18, res0 := 0x20, res1 := 0x24, res2 := 0x28, res3 := 0x2C }

/-- The sixteen control words, read one by one; 4095 bytes, the most that RLEN_R shows, meet its clause too. -/
theorem witness_ControlRegistersReadTheirFields :
    allWords.cfg.legal = true ∧ allWords.rbuf.length < 2 ^ 12 ∧ (List.replicate 4095 (0 : Byte)).length < 2 ^ 12 ∧
    ([(0x00, 0x6405), (0x04, 0x61), (0x08, 0x7FF), (0x0C, 0xFFFFFFFE), (0x10, 1), (0x14, 0x14), (0x18, 0x18), (0x1C, 0),
      (0x20, 0x20), (0x24, 0x24), (0x28, 0x28), (0x2C, 0x2C), (0x30, 4), (0x34, 48), (0x38, 2), (0x3C, 15)]
      : List (Nat × Word)).all (fun p =>
        let s := facing (.read 4 (lab.base + p.1)) allWords
        s.bus == [.read 4 (s.cfg.base + p.1)] && nextWith (step s) (fun t => t.reply == .data p.2)) = true := by
  decide +kernel

/-- Each written register, a read-only one and the reserved one. -/
theorem witness_ControlRegisterWrites :
    ([0x08, 0x0C, 0x10, 0x14, 0x18, 0x04, 0x1C, 0x3C] : List Nat).all (fun off =>
      let s := facing (.write 4 (lab.base + off) 0xFFFFFFFF) (bench [])
      s.cfg.legal && s.bus == [.write 4 (s.cfg.base + off) 0xFFFFFFFF] && decide (0 < off) && decide (off < 0x40) &&
      off % 4 == 0) = true := by
  decide +kernel

/-- Every region, at each width: CHTAB, reserved space, CALRAM, FBUF, INBUF, RAWOUT and OUTVAL. -/
theorem witness_HostWriteStoresItsBytes :
    ([(4, 0x40, .chtab), (1, 0x5F, .chtab), (2, 0x60, .reserved), (4, 0x100, .calram), (1, 0x327, .calram),
      (1, 0x400, .fbuf), (2, 0x4FE, .fbuf), (4, 0xBFC, .inbuf), (4, 0xC00, .rawout), (4, 0x13FC, .outval),
      (4, 0x1FFC, .reserved)] : List (Nat × Nat × Region)).all (fun p =>
      let s := facing (.write p.1 (lab.base + p.2.1) 0xFFFFFFFF) (bench [])
      s.cfg.legal && s.bus == [.write p.1 (s.cfg.base + p.2.1) 0xFFFFFFFF] && (p.1 == 1 || p.1 == 2 || p.1 == 4) &&
      p.2.1 % p.1 == 0 && decide (0x40 ≤ p.2.1) && decide (p.2.1 + p.1 ≤ 0x2000) &&
      regionOf s.cfg p.2.1 == p.2.2) = true := by
  decide +kernel

/-- The reserved word 0x01C, the first reserved word after CHTAB, the absent DAC's entries when there is one DAC, the
first bytes at MAX_FRAME when it cuts a word in half, and the window's last word and byte. -/
theorem witness_ReservedBytesReadZeroAndIgnoreWrites :
    ([(lab, 4, 0x1C, 0), (lab, 4, 0x60, 0), ({ lab with nDac := 1 }, 4, 0x310, 3), ({ lab with maxFrame := 254 }, 4, 0x4FC, 2),
      (lab, 4, 0x1FFC, 3), (lab, 1, 0x1FFF, 0)] : List (Config × Nat × Nat × Nat)).all (fun p =>
      let s := State.resetOf p.1
      let n := p.2.1
      let off := p.2.2.1
      let i := p.2.2.2
      p.1.legal && off % n == 0 && decide (off + n ≤ 0x2000) && (decide (0x40 ≤ off) || n == 4) && decide (i < n) &&
      (regionOf p.1 (off + i) == .reserved || (decide (0x1C ≤ off + i) && decide (off + i < 0x20))) &&
      (facing (.read n (p.1.base + off)) s).bus == [.read n (s.cfg.base + off)] &&
      (facing (.write n (p.1.base + off) 5) s).bus == [.write n (s.cfg.base + off) 5]) = true := by
  decide +kernel

theorem witness_ResetLeavesTheStatedValues : Config.spec.legal = true ∧ high.legal = true ∧
    inByteWindow high 0x400 = true ∧ inByteWindow high 0x13FF = true := by decide +kernel

theorem witness_PlatformResetRestoresResetState :
    let s := facing .reset (running true [1, 2, 3] [(0x400, frameE1)])
    s.cfg.legal = true ∧ s.bus = [.reset] ∧ s.stream = .streaming := by decide +kernel

theorem witness_BlockNeverStops : Reachable (State.resetOf lab) ∧ (State.resetOf lab).cfg.legal = true :=
  ⟨.reset lab (by decide +kernel), by decide +kernel⟩

theorem witness_OnlyResetReturnsToIdle :
    let s := facing (.write 4 lab.base 0x00000006) (running true [1] [])
    s.stream ≠ .idle ∧ s.bus.head? ≠ some .reset ∧ ∃ t, step s = .next t ∧ (t.stream == .configured) = true :=
  ⟨by decide +kernel, by decide +kernel, nextWith_spec (by decide +kernel)⟩

/-! ### CODEC -/

theorem witness_FoldedChecksumIsAResidue :
    0 < 65536 ∧ 65535 < 65536 ∧ reduce8 .fold 0 = 0 ∧ reduce8 .fold 255 = 255 ∧ reduce8 .fold 256 = 1 ∧
    reduce8 .fold 278 = 0x17 ∧ reduce8 .fold 511 = 1 ∧ reduce8 .fold 64770 = 255 ∧ reduce8 .fold 65025 = 255 ∧
    reduce8 .mod256 278 = 0x16 ∧ reduce8 .mod256 65025 = 1 := by decide +kernel

/-- Checks every payload byte of a frame, and says it as the obligations do. -/
theorem payload_of_all {l : Nat} {x : Bool} {p : Nat → Prop} [DecidablePred p]
    (h : (List.range l).all (fun i => i == 0 || (x && (i == 4 || i == 5)) || decide (p i)) = true) :
    ∀ i, PayloadIndex l x i → p i := by
  rintro i ⟨h1, h2, h3⟩
  have hi := List.all_eq_true.1 h i (List.mem_range.2 h2)
  simp only [Bool.or_eq_true, Bool.and_eq_true, beq_iff_eq, decide_eq_true_eq] at hi
  rcases hi with (hi | ⟨hx, hi⟩) | hi
  · omega
  · have := h3 hx
    omega
  · exact hi

/-- The frame of CK-E1, its bytes 0, 4 and 5 unwritten. -/
theorem witness_CkEncodeInsertsTheChecksums : beforeE1.cfg.legal = true ∧ LegalFrame beforeE1.cfg 10 true ∧
    frameE1.length = 10 ∧ ∀ i, PayloadIndex 10 true i → windowByte beforeE1 (0x400 + i) = frameE1[i]? :=
  ⟨by decide +kernel, by unfold LegalFrame; decide +kernel, rfl, payload_of_all (by decide +kernel)⟩

/-- The shortest short frame. -/
theorem witness_CkEncodeInsertsTheChecksums_short :
    LegalFrame lab 2 false ∧ ∀ i, PayloadIndex 2 false i →
      windowByte (bench [(0x401, [0x70])]) (0x400 + i) = ([0x70, 0x70] : List Byte)[i]? :=
  ⟨by unfold LegalFrame; decide +kernel, payload_of_all (by decide +kernel)⟩

/-- The smallest and the largest frame of each class. -/
theorem witness_CkEncodeCompletes :
    lab.legal = true ∧ LegalFrame lab 6 true ∧ LegalFrame lab 256 true ∧ LegalFrame lab 2 false ∧ LegalFrame lab 256 false := by
  unfold LegalFrame
  decide +kernel

/-- One below and one above each range. -/
theorem witness_CkEncodeRefusesIllegalLength :
    ¬ LegalFrame lab 5 true ∧ ¬ LegalFrame lab 257 true ∧ ¬ LegalFrame lab 1 false ∧ ¬ LegalFrame lab 257 false := by
  unfold LegalFrame
  decide +kernel

/-- The hypotheses of the clauses of CK.DECODE: a frame that passes, one flipped bit, and a differing third echo byte. -/
theorem witness_CkDecodeJudgesTheFrame :
    beforeD1.cfg.legal = true ∧ LegalFrame beforeD1.cfg 10 true ∧ beforeD1.arg1.toNat % 65536 = 10 ∧
    frameE1.length = 10 ∧ windowHolds beforeD1 0x400 frameE1 = true ∧
    checksum8 lab.ck8Reduce (byteSum (frameE1.drop 1)) = (frameE1.getD 0 0).toNat ∧ frameCk16 true frameE1 = 0x0A ∧
    checksum8 lab.ck8Reduce (byteSum ((frameE1.set 7 3).drop 1)) ≠ ((frameE1.set 7 3).getD 0 0).toNat ∧
    (∀ i, i < 4 → 1 ≤ i → (frameE1.getD i 0).toNat = echoNat beforeD1.arg0 i) ∧
    (frameE1.getD 3 0).toNat ≠ echoNat 0x000902F8 3 := by
  unfold LegalFrame
  decide +kernel

/-- Each clause: an illegal frame, K = 0, K = L, and a wrong received length. -/
theorem witness_CkDecodeRefusesOperandsThenLength :
    ¬ LegalFrame lab 5 true ∧ LegalFrame lab 2 false ∧ 2 ≤ 2 ∧ (1 ≤ 1 ∧ 1 < 2) ∧ (0x9#32).toNat % 65536 ≠ 2 := by
  unfold LegalFrame
  decide +kernel

/-- The largest K of the shortest frame, and K = 3 on an extended one. -/
theorem witness_CkDecodeCompletes :
    beforeD1.cfg.legal = true ∧ LegalFrame beforeD1.cfg 10 true ∧ 1 ≤ 3 ∧ 3 < 10 ∧ beforeD1.arg1.toNat % 65536 = 10 ∧
    LegalFrame lab 2 false ∧ 1 < 2 ∧ ({ bench [] with arg1 := 0xFFFF0002 } : State).arg1.toNat % 65536 = 2 := by
  unfold LegalFrame
  decide +kernel

theorem witness_EncodeThenDecodeRoundTrips :
    beforeE1.cfg.legal = true ∧ LegalFrame beforeE1.cfg 10 true ∧
    (∀ i, PayloadIndex 10 true i → (windowByte beforeE1 (0x400 + i)).isSome = true) ∧ (0xA#32).toNat % 65536 = 10 ∧
    ∀ i, i < 4 → 1 ≤ i → windowByte beforeE1 (0x400 + i) = some (BitVec.ofNat 8 (echoNat 0x000802F8 i)) :=
  ⟨by decide +kernel, by unfold LegalFrame; decide +kernel, payload_of_all (by decide +kernel), by decide,
    by decide +kernel⟩

/-- The same encoded frame, with a flip in its first and in its last byte. -/
theorem witness_SingleBitCorruptionIsDetected :
    (∀ i, PayloadIndex 10 true i → (windowByte beforeE1 (0x400 + i)).isSome = true) ∧
    ∃ t, exec (.ckEncode 10 true) beforeE1 = .next t ∧
      (t.code == .ok && windowByte t 0x400 == some 0x17 && windowByte t 0x409 == some 0x04) = true :=
  ⟨payload_of_all (by decide +kernel), nextWith_spec (by decide +kernel)⟩

/-! ### CAL -/

/-- The last pair of each calibration set, with different slopes. -/
def lastPairs (set : Nat) : State :=
  { bench [(0x1F0 + 0x100 * set, leBytes 8 0x3F50000000000000), (0x1F8 + 0x100 * set, leBytes 8 0xC040000000000000)]
    with hiresSup := true }

/-- G = 15 with resolution 17 (set 0) and 18 (set 1). -/
theorem witness_CvAinAppliesTheSelectedPair :
    ¬ lab.hiresThreshold < 17 ∧ lab.hiresThreshold < 18 ∧ (lastPairs 0).hiresSup = true ∧
    windowHolds (lastPairs 0) (0x100 + 0x100 * 0 + 16 * 15) (leBytes 8 (0x3F50000000000000#64).toNat) = true ∧
    windowHolds (lastPairs 0) (0x108 + 0x100 * 0 + 16 * 15) (leBytes 8 (0xC040000000000000#64).toNat) = true ∧
    windowHolds (lastPairs 1) (0x100 + 0x100 * 1 + 16 * 15) (leBytes 8 (0x3F50000000000000#64).toNat) = true ∧
    windowHolds (lastPairs 1) (0x108 + 0x100 * 1 + 16 * 15) (leBytes 8 (0xC040000000000000#64).toNat) = true := by
  decide +kernel

theorem witness_CvTempScalesByTempSlope :
    windowHolds (bench [(0x320, leBytes 8 0x3F80000000000000)]) 0x320 (leBytes 8 (0x3F80000000000000#64).toNat) = true := by
  decide +kernel

/-- A DAC that is present with its constants, the second DAC, and the second DAC absent. -/
theorem witness_CvDacClampsAndTruncates :
    1 < lab.nDac ∧ lab.nDac ≤ 2 ∧ ({ lab with nDac := 1 } : Config).nDac ≤ 1 ∧
    windowHolds (beforeDac 0 0) (0x300 + 16 * 0) (leBytes 8 (0x408F400000000000#64).toNat) = true ∧
    windowHolds (beforeDac 0 0) (0x308 + 16 * 0) (leBytes 8 (0x3FE0000000000000#64).toNat) = true ∧
    windowHolds (bench [(0x310, leBytes 8 0x3FF0000000000000)]) (0x300 + 16 * 1)
      (leBytes 8 (0x3FF0000000000000#64).toNat) = true ∧
    windowHolds (bench [(0x310, leBytes 8 0x3FF0000000000000)]) (0x308 + 16 * 1)
      (leBytes 8 (0x0000000000000000#64).toNat) = true := by
  decide +kernel

/-- With DAC 1's slope 1 and offset 0 the transformed voltage is the voltage: a value of each kind for each clause of
CV.DAC, NaN, both infinities, -1, 0, 2.5, 65535 and 65536. -/
theorem witness_CvDacClampsAndTruncates_values :
    ([0x7FF8000000000000, 0xFFF0000000000000, 0x7FF0000000000000, 0xBFF0000000000000, 0x0000000000000000,
      0x4004000000000000, 0x40EFFFE000000000, 0x40F0000000000000] : List F64).map
      (fun v => unpack (fadd (fmul v 0x3FF0000000000000) 0)) =
    [.nan, .inf true, .inf false, .fin true (2 ^ 52) (-52), .fin false 0 (-1074), .fin false (5 * 2 ^ 50) (-51),
      .fin false (65535 * 2 ^ 37) (-37), .fin false (2 ^ 52) (-36)] := by decide +kernel

/-- A finite encoding has an exact value. -/
theorem finite_of_unpack {u : F64} {n : Bool} {m : Nat} {e : Int} (h : unpack u = .fin n m e) :
    floatRat u = some (finRat n m e) := by simp only [floatRat, h]

/-- 0.1 times 3, the largest finite value times itself, which overflows, and the smallest subnormal times minus the
smallest, which underflows to -0. -/
theorem witness_MultiplyRoundsToNearestEven :
    floatRat 0x3FB999999999999A = some (finRat false 0x1999999999999A (-56)) ∧
    floatRat 0x4008000000000000 = some (finRat false 0x18000000000000 (-51)) ∧
    floatRat 0x7FEFFFFFFFFFFFFF = some (finRat false 0x1FFFFFFFFFFFFF 971) ∧
    fmul 0x3FB999999999999A 0x4008000000000000 = 0x3FD3333333333334 ∧
    unpack (fmul 0x7FEFFFFFFFFFFFFF 0x7FEFFFFFFFFFFFFF) = .inf false ∧
    floatRat 0x0000000000000001 = some (finRat false 1 (-1074)) ∧
    floatRat 0x8000000000000001 = some (finRat true 1 (-1074)) ∧
    fmul 0x0000000000000001 0x8000000000000001 = 0x8000000000000000 :=
  ⟨finite_of_unpack (by decide +kernel), finite_of_unpack (by decide +kernel), finite_of_unpack (by decide +kernel),
    by decide +kernel, by decide +kernel, finite_of_unpack (by decide +kernel), finite_of_unpack (by decide +kernel),
    by decide +kernel⟩

/-- A subnormal and a normal value, and two values whose sum is a tie: 2^53 + 1 rounds to the even 2^53. -/
theorem witness_AddRoundsToNearestEven :
    floatRat 0x0000000000000001 = some (finRat false 1 (-1074)) ∧
    floatRat 0x4340000000000000 = some (finRat false 0x10000000000000 1) ∧
    floatRat 0x3FF0000000000000 = some (finRat false 0x10000000000000 (-52)) ∧
    fadd 0x4340000000000000 0x3FF0000000000000 = 0x4340000000000000 :=
  ⟨finite_of_unpack (by decide +kernel), finite_of_unpack (by decide +kernel), finite_of_unpack (by decide +kernel),
    by decide +kernel⟩

/-- A NaN input, zero times infinity, and infinities of opposite sign. -/
theorem witness_NaNResultsAreCanonical :
    unpack 0x7FF0000000000001 = .nan ∧ unpack 0xFFFFFFFFFFFFFFFF = .nan ∧ unpack 0x8000000000000000 = .fin true 0 (-1074) ∧
    unpack 0x7FF0000000000000 = .inf false ∧ unpack 0xFFF0000000000000 = .inf true := by decide +kernel

theorem witness_ZeroResultsHaveIeeeSigns :
    floatRat 0x8000000000000000 = some (finRat true 0 (-1074)) ∧ finRat true 0 (-1074) = 0 ∧
    floatRat 0x0000000000000000 = some (finRat false 0 (-1074)) ∧ finRat false 0 (-1074) = 0 ∧
    finRat false 3 0 + finRat true 3 0 = 0 :=
  ⟨finite_of_unpack (by decide +kernel), by simp [finRat], finite_of_unpack (by decide +kernel), by simp [finRat],
    by simp [finRat]⟩

/-- The smallest subnormal, the largest finite value, an infinity and both zeros, at the bounds of each clause. -/
theorem witness_InfiniteOperandsFollowIeee :
    ([0x0000000000000001, 0x8000000000000001, 0xFFEFFFFFFFFFFFFF, 0x7FF0000000000000] : List F64).all (fun b =>
      decide (magnitude b ≠ 0) && decide (magnitude b ≤ magnitude (infinity false))) = true ∧
    ([0x0000000000000000, 0x8000000000000000, 0x7FEFFFFFFFFFFFFF] : List F64).all (fun b =>
      decide (magnitude b < magnitude (infinity false))) = true ∧
    ¬ magnitude canonicalNaN ≤ magnitude (infinity false) := by decide +kernel

theorem witness_ConversionFromNaturalsIsExact :
    0 < 2 ^ 53 ∧ 2 ^ 53 - 1 < 2 ^ 53 ∧ cvt 0 = 0 ∧ cvt 65535 = 0x40EFFFE000000000 ∧
    cvt (2 ^ 53 - 1) = 0x433FFFFFFFFFFFFF := by decide +kernel

/-! ### REASM -/

/-- `LegalChannels` as a check. -/
theorem legalChannels_of_all {s : State} {n : Nat}
    (h : (decide (s.scfg.toNat / 2 % 32 = n) && decide (s.scfg.toNat / 64 % 32 = n) && decide (1 ≤ n) &&
      decide (n ≤ s.cfg.maxCh) && (List.range n).all fun i => decide (windowEntry s i / 512 % 4 ≠ 3)) = true) :
    LegalChannels s n := by
  simp only [Bool.and_eq_true, decide_eq_true_eq, List.all_eq_true, List.mem_range] at h
  exact ⟨h.1.1.1.1, h.1.1.1.2, h.1.1.2, h.1.2, h.2⟩

/-- ST-8, and all sixteen slots. -/
theorem witness_StConfigureLatchesTheConfiguration :
    beforeConfigure.cfg.legal = true ∧ beforeConfigure.stream ≠ .streaming ∧ LegalChannels beforeConfigure 2 ∧
    LegalChannels { bench [] with scfg := 0x420 } 16 :=
  ⟨by decide +kernel, by decide +kernel, legalChannels_of_all (by decide +kernel), legalChannels_of_all (by decide +kernel)⟩

/-- ST-5: no channel is listed; ST-7: three are, the third with the reserved KIND. -/
theorem witness_StConfigureRefusesIllegalChannels :
    (bench []).stream ≠ .streaming ∧ (∀ n, ¬ LegalChannels (bench []) n) ∧
    ∀ n, ¬ LegalChannels { beforeConfigure with scfg := 0xC7 } n := by
  refine ⟨by decide +kernel, ?_, ?_⟩
  · rintro n ⟨h1, -, h2, -, -⟩
    have : (bench []).scfg.toNat / 2 % 32 = 0 := by decide +kernel
    omega
  · rintro n ⟨h1, -, -, -, h2⟩
    have h3 : ({ beforeConfigure with scfg := 0xC7 } : State).scfg.toNat / 2 % 32 = 3 := by decide +kernel
    exact h2 2 (by omega) (by decide +kernel)

theorem witness_StartAndStopEmptyTheBuffer :
    ({ running true [1] [] with stream := .configured } : State).stream = .configured ∧
    (running true [1] []).stream = .streaming := by decide +kernel

/-- A garbage packet, and NB-L9's packet, which is not: its first sample is 1. -/
theorem witness_GarbageIsMarkedAndAllZero :
    lab.legal = true ∧ garbagePacket.length = lab.pktLocal ∧ (garbagePacket.set 12 1).length = lab.pktLocal ∧
    garbage lab garbagePacket = true ∧ garbage lab (garbagePacket.set 12 1) = false ∧
    garbage lab (garbagePacket.set 11 5) = true := by decide +kernel

theorem witness_SampleConversionFollowsKind :
    (0x0C0#11).toNat / 512 = 0 ∧ (0x200#11).toNat / 512 = 1 ∧ (0x400#11).toNat / 512 = 2 := by decide

/-- Some packets usable, and none: with a partial packet, and at PPR*PKT bytes exactly. -/
theorem witness_NextblkLocalEmitsUsablePackets :
    ([goodPacket 46 1 ++ garbagePacket ++ [0xAA], garbagePacket ++ garbagePacket, [],
      goodPacket 46 1 ++ goodPacket 46 2 ++ goodPacket 46 3 ++ goodPacket 46 4] : List (List Byte)).all (fun input =>
      let s := reading false [] input
      s.inv && s.stream == .streaming && !s.atr && decide (input.length ≤ s.cfg.inbufSize) &&
      decide (input.length ≤ s.pprR.toNat * s.pktR.toNat) && windowHolds s 0x800 input) = true := by
  decide +kernel

/-- A full batch, a flush, and neither; the last one fills RBUF to its capacity. -/
theorem witness_NextblkNetReassemblesPackets :
    ([(List.replicate 191 0, [1]), ([], goodPacket 48 1 ++ [5]), ([3], []), (List.replicate 2046 0, [1, 2])]
      : List (List Byte × List Byte)).all (fun p =>
      let s := reading true p.1 p.2
      s.inv && s.stream == .streaming && s.atr && decide (p.2.length ≤ s.cfg.inbufSize) &&
      decide (s.rbuf.length + p.2.length ≤ s.cfg.rbufCap) && windowHolds s 0x800 p.2) = true := by
  decide +kernel

/-- One byte too many, on each bound. -/
theorem witness_NextblkRefusesLongReads :
    (running true [] []).stream = .streaming ∧ (running true [] []).cfg.inbufSize < 1025 ∧
    (running false [] []).atr = false ∧ (running false [] []).pprR.toNat * (running false [] []).pktR.toNat < 185 := by
  decide +kernel

/-- NB-N10: 1664 bytes held and a read of 1024. -/
theorem witness_OverflowIsRecoverable :
    let s := running true (List.replicate 1664 0) []
    s.Inv ∧ s.stream = .streaming ∧ s.atr = true ∧ 1024 ≤ s.cfg.inbufSize ∧ s.cfg.rbufCap < s.rbuf.length + 1024 := by
  decide +kernel

/-- Both transports; on the network one, one byte less than a batch, and a batch. -/
theorem witness_ZeroByteReadIsPendingUnlessABatchIsHeld :
    (running false [] []).Inv ∧ (running false [] []).atr = false ∧ (running true (List.replicate 191 0) []).Inv ∧
    (running true (List.replicate 191 0) []).rbuf.length <
      (running true [] []).pprR.toNat * (running true [] []).pktR.toNat ∧ (running true (List.replicate 192 0) []).Inv ∧
    (running true [] []).pprR.toNat * (running true [] []).pktR.toNat ≤
      (running true (List.replicate 192 0) []).rbuf.length := by
  decide +kernel

/-- The largest M of each transport, INBUF unwritten. -/
theorem witness_NextblkCompletes :
    (running false [] []).Inv ∧ 184 ≤ (running false [] []).pprR.toNat * (running false [] []).pktR.toNat ∧
    (running true (List.replicate 1024 0) []).Inv ∧ 1024 ≤ lab.inbufSize ∧ 1024 + 1024 ≤ lab.rbufCap := by
  decide +kernel

/-- One packet delivered in two reads, the second with the flush. -/
theorem witness_ReassemblyKeepsTheByteStream :
    let s := running true [] []
    let reads := [((goodPacket 48 1).take 20, false), ((goodPacket 48 1).drop 20, true)]
    s.Inv ∧ s.stream = .streaming ∧ s.atr = true ∧ s.rbuf = [] ∧ (∀ r ∈ reads, r.1.length ≤ s.cfg.inbufSize) ∧
    ((deliverAll reads s).map Prod.snd) = some (goodPacket 48 1) := by
  decide +kernel

theorem witness_RestartKeepsTheConfiguration :
    ({ running true [] [] with stream := .configured } : State).stream = .configured := by decide +kernel

/-! ### The whole machine -/

theorem witness_CodecIgnoresTheStream : IsCodecOp (.ckEncode 10 true) ∧ IsCodecOp (.ckDecode 10 true 3) :=
  ⟨trivial, trivial⟩

theorem witness_ConversionsIgnoreTheStreamAndBuffers :
    IsCalOp (.cvAin 40960 0 12) ∧ IsCalOp (.cvTemp 38400) ∧ IsCalOp (.cvDac 1) := ⟨trivial, trivial, trivial⟩

theorem witness_ConfigurationRegistersActOnlyAtConfigure : Instr.stNextblk 0 false ≠ .stConfigure := by decide

theorem witness_OperationsKeepTheirOperands : ∃ t, exec (.ckEncode 10 true) beforeE1 = .next t ∧ (t.code == .ok) = true :=
  nextWith_spec (by decide +kernel)

/-- One raised status of each code of the list that an operation can raise. -/
theorem witness_RaisedStatusChangesNothingElse :
    nextWith (exec (.ckDecode 10 true 3) { beforeD1 with arg1 := 9 }) (fun t => t.code == .lengthMismatch) = true ∧
    nextWith (exec .stStop (bench [])) (fun t => t.code == .stateError) = true ∧
    nextWith (exec .stConfigure (bench [])) (fun t => t.code == .configError) = true ∧
    nextWith (exec (.cvDac 2) (bench [])) (fun t => t.code == .badOperand) = true ∧
    nextWith (exec (.stNextblk 1024 false) (running true (List.replicate 1664 0) [])) (fun t => t.code == .overflow)
      = true := by decide +kernel

/-- A local read of one byte sets TRUNC; START and CONFIGURE clear it. -/
theorem witness_TruncIsSticky :
    nextWith (exec (.stNextblk 1 false) (running false [] [])) (fun t => t.trunc) = true ∧
    nextWith (exec .stStart { running true [] [] with stream := .configured, trunc := true }) (fun t => !t.trunc) = true ∧
    nextWith (exec .stConfigure { beforeConfigure with trunc := true }) (fun t => !t.trunc) = true := by
  decide +kernel

/-- Steps from states of the invariant: a streaming one, a configured one, and one that takes a reset. -/
theorem witness_EveryStepKeepsTheInvariant :
    ([facing (.write 4 lab.base 0x00000115) (running true (List.replicate 47 0) [(0x800, [0])]),
      facing (.write 4 lab.base 0x00000003) beforeConfigure, facing .reset (running false [] [])] : List State).all
      (fun s => s.inv && nextWith (step s) State.inv) = true := by decide +kernel

theorem witness_ResetMeetsTheInvariant : lab.legal = true ∧ high.legal = true := by decide +kernel

/-- A state that is reached and not streaming: right after a CONFIGURE that fails. -/
theorem witness_LeftoverIsEmptyOutsideStreaming :
    ∃ t, Reachable t ∧ t.stream ≠ .streaming ∧ t.code = .configError := by
  obtain ⟨t, ht, hp⟩ := nextWith_spec (r := step (facing (.write 4 lab.base 0x00000003) (State.resetOf lab)))
    (p := fun t => t.stream == .idle && t.code == .configError) (by decide +kernel)
  simp only [Bool.and_eq_true, beq_iff_eq] at hp
  exact ⟨t, .step _ _ (.present _ _ (.reset lab (by decide +kernel))) ht, by rw [hp.1]; decide, hp.2⟩

end Sys2Proof.Tests
end

/-! ## State after reset and between operations (`10_state.md` R47, R48, R53) -/

namespace Sys2Proof.Machine

/-! ### The values of reset (R53) -/

/-- The first 32 bytes after the control region are CHTAB or reserved (R61). -/
theorem regionOf_chtab_or_reserved (c : Config) {i : Nat} (h : i < 32) :
    regionOf c (0x40 + i) = .chtab ∨ regionOf c (0x40 + i) = .reserved := by
  unfold regionOf
  rw [if_neg (by omega), if_pos (by omega)]
  exact regionWithin_eq _ _ _

/-- An entry of a table of zeros is 0, and so is what stands for an entry beyond it. -/
theorem tableEntry_replicate_zero (i : Nat) : tableEntry (Vector.replicate 16 0) i = 0 := by
  unfold tableEntry
  rw [Vector.getElem?_replicate]
  split <;> rfl

/-- A slot entry of 0 shows two bytes of 0 (R35). -/
theorem entryByte_zero (hi : Bool) : entryByte 0 hi = 0 := by
  cases hi <;> decide

/-- CHTAB, its reserved entries included, shows zeros (R35, R53). -/
theorem resetOf_windowByte_chtab (c : Config) {i : Nat} (h : i < 32) :
    windowByte (State.resetOf c) (0x40 + i) = some 0 := by
  have hreset : (State.resetOf c).chtab = Vector.replicate 16 0 := rfl
  have hcfg : (State.resetOf c).cfg = c := rfl
  unfold windowByte
  rcases regionOf_chtab_or_reserved c h with hr | hr
  · rw [hcfg, hr, hreset, tableEntry_replicate_zero, entryByte_zero]
  · rw [hcfg, hr]

/-- CALRAM shows the nominal image, where its DAC entries are present (R38, R40). -/
theorem resetOf_windowByte_calram (c : Config) {i : Nat} (h : i < 0x228)
    (hdac : i < 0x200 + 16 * c.nDac ∨ 0x220 ≤ i) :
    windowByte (State.resetOf c) (0x100 + i) = c.nominal[i]? := by
  have hcfg : (State.resetOf c).cfg = c := rfl
  have hbyte : calByte (State.resetOf c) (0x100 + i) = c.nominal[i] := by
    simp [calByte, State.resetOf, h]
  rw [windowByte_calram (by omega) (by omega) (by rw [hcfg]; omega), hbyte, Vector.getElem?_eq_getElem h]

/-- An offset of the byte windows shows what memory holds there (R52). -/
theorem windowByte_of_inByteWindow {s : State} {off : Nat} (h : inByteWindow s.cfg off = true) :
    windowByte s off = memoryGet s.mem off := by
  refine windowByte_of_region ?_
  unfold inByteWindow at h
  cases hr : regionOf s.cfg off <;> simp [hr] at h ⊢

/-- After reset no byte of the byte windows is written (R52). -/
theorem resetOf_windowByte_unwritten (c : Config) {off : Nat} (h : inByteWindow c off = true) :
    windowByte (State.resetOf c) off = none :=
  windowByte_of_inByteWindow (s := State.resetOf c) h

/-- Settles O15: the registers are read off `State.resetOf`, and each region of the window has its lemma. -/
theorem resetLeavesTheStatedValues : Obligations.ResetLeavesTheStatedValues := by
  intro c _
  exact ⟨rfl, rfl, rfl, rfl, rfl, rfl, rfl, rfl, rfl, rfl, rfl, rfl, rfl, rfl, rfl, rfl, rfl, rfl, rfl, rfl,
    fun i _ => tableEntry_replicate_zero i, fun _ => resetOf_windowByte_chtab c,
    fun _ => resetOf_windowByte_calram c, fun _ => resetOf_windowByte_unwritten c⟩

/-! ### The leftover outside STREAMING (R47) -/

/-- The rule of R47: outside STREAMING, RBUF is empty and SLOT is 0. -/
def State.Settled (s : State) : Prop := s.stream ≠ .streaming → s.rbuf = [] ∧ s.slot = 0

/-- `t` has the STATE, the RBUF and the SLOT of `s`. -/
def SameLeftover (s t : State) : Prop := t.stream = s.stream ∧ t.rbuf = s.rbuf ∧ t.slot = s.slot

theorem SameLeftover.settled {s t : State} (h : SameLeftover s t) (hs : s.Settled) : t.Settled := by
  obtain ⟨hstream, hrbuf, hslot⟩ := h
  unfold State.Settled
  rwa [hstream, hrbuf, hslot]

/-- What an operation can do to the leftover: keep it, empty it, or be in STREAMING afterwards. -/
def LeftoverStep (s t : State) : Prop :=
  SameLeftover s t ∨ (t.rbuf = [] ∧ t.slot = 0) ∨ t.stream = .streaming

theorem LeftoverStep.settled {s t : State} (h : LeftoverStep s t) (hs : s.Settled) : t.Settled := by
  rcases h with hsame | hempty | hstreaming
  · exact hsame.settled hs
  · exact fun _ => hempty
  · exact fun hne => absurd hstreaming hne

theorem SameLeftover.refl (s : State) : SameLeftover s s := ⟨rfl, rfl, rfl⟩

theorem SameLeftover.trans {s t u : State} (h : SameLeftover s t) (h' : SameLeftover t u) : SameLeftover s u := by
  obtain ⟨hstream, hrbuf, hslot⟩ := h
  obtain ⟨hstream', hrbuf', hslot'⟩ := h'
  exact ⟨hstream'.trans hstream, hrbuf'.trans hrbuf, hslot'.trans hslot⟩

/-- An update that keeps the three fields may come before an operation. -/
theorem SameLeftover.leftoverStep {s t u : State} (h : SameLeftover s t) (h' : LeftoverStep t u) :
    LeftoverStep s u := by
  rcases h' with hsame | hother
  · exact .inl (h.trans hsame)
  · exact .inr hother

theorem sameLeftover_setCode (s : State) (c : Code) : SameLeftover s (s.setCode c) := ⟨rfl, rfl, rfl⟩

theorem execCkEncode_sameLeftover {l : Nat} {x : Bool} {s t : State} (h : execCkEncode l x s = .next t) :
    SameLeftover s t := by
  have hck16 : SameLeftover s (afterCk16 s l x) :=
    ⟨afterCk16_stream s l x, afterCk16_rbuf s l x, afterCk16_slot s l x⟩
  have hck8 (u : State) (b : Byte) (v : Word) :
      SameLeftover u ((((u.putFbuf 0 b).setRes0 v).drawn 2).setCode .ok) := ⟨rfl, rfl, rfl⟩
  rcases execCkEncode_cases l x s with ⟨_, hrefused⟩ | ⟨_, c8, c16, _, _, hdone⟩
  · cases hrefused.symm.trans h
    exact sameLeftover_setCode s _
  · cases hdone.symm.trans h
    exact hck16.trans (hck8 _ _ _)

theorem execCkDecode_sameLeftover {l : Nat} {x : Bool} {k : Nat} {s t : State}
    (h : execCkDecode l x k s = .next t) : SameLeftover s t := by
  have hjudged (i : Nat) (c : Code) : SameLeftover s ((judgedState s l x i).setCode c) :=
    SameLeftover.trans ⟨judgedState_stream s l x i, judgedState_rbuf s l x i, judgedState_slot s l x i⟩
      (sameLeftover_setCode _ c)
  rcases execCkDecode_cases l x k s with ⟨_, he⟩ | ⟨_, _, _, ⟨_, he⟩ | ⟨_, ⟨_, he⟩ | ⟨_, ⟨i, _, he⟩ | ⟨_, he⟩⟩⟩⟩ <;>
    cases he.symm.trans h
  · exact sameLeftover_setCode s _
  · exact sameLeftover_setCode s _
  · exact hjudged 0 _
  · exact hjudged i _
  · exact hjudged 0 _

theorem execCvDac_sameLeftover {d : Nat} {s t : State} (h : execCvDac d s = .next t) : SameLeftover s t := by
  rcases execCvDac_cases d s with ⟨_, he⟩ | ⟨_, he⟩ <;> cases he.symm.trans h
  · exact sameLeftover_setCode s _
  · exact ⟨rfl, rfl, rfl⟩

theorem execStConfigure_leftoverStep {s t : State} (h : execStConfigure s = .next t) : LeftoverStep s t := by
  rcases execStConfigure_cases s with ⟨_, he⟩ | ⟨_, _, he⟩ | ⟨_, _, he⟩ <;> cases he.symm.trans h
  · exact .inl (sameLeftover_setCode s _)
  · exact .inl (sameLeftover_setCode s _)
  · exact .inr (.inl ⟨rfl, rfl⟩)

theorem execStStart_leftoverStep {s t : State} (h : execStStart s = .next t) : LeftoverStep s t := by
  rcases execStStart_cases s with ⟨_, he⟩ | ⟨_, he⟩ <;> cases he.symm.trans h
  · exact .inl (sameLeftover_setCode s _)
  · exact .inr (.inl ⟨rfl, rfl⟩)

theorem execStStop_leftoverStep {s t : State} (h : execStStop s = .next t) : LeftoverStep s t := by
  rcases execStStop_cases s with ⟨_, he⟩ | ⟨_, he⟩ <;> cases he.symm.trans h
  · exact .inl (sameLeftover_setCode s _)
  · exact .inr (.inl ⟨rfl, rfl⟩)

theorem nextblkLocal_stream {m : Nat} {s t : State} (h : nextblkLocal m s = .next t) : t.stream = s.stream := by
  rcases nextblkLocal_cases m s with ⟨_, he⟩ | ⟨_, _, he⟩ | ⟨_, _, he⟩ <;> cases he.symm.trans h <;> simp

theorem nextblkNet_stream {m : Nat} {f : Bool} {s t : State} (h : nextblkNet m f s = .next t) :
    t.stream = s.stream := by
  rcases nextblkNet_cases m f s with ⟨_, he⟩ | ⟨_, _, he⟩ | ⟨_, n, _, he⟩ <;> cases he.symm.trans h <;> simp

/-- ST.NEXTBLK touches the leftover in STREAMING only, and stays there. -/
theorem execStNextblk_leftoverStep {m : Nat} {f : Bool} {s t : State} (h : execStNextblk m f s = .next t) :
    LeftoverStep s t := by
  rcases execStNextblk_cases m f s with ⟨_, he⟩ | ⟨_, _, he⟩ | ⟨hs, _, _, he⟩ | ⟨hs, _, _, he⟩
  · cases he.symm.trans h
    exact .inl (sameLeftover_setCode s _)
  · cases he.symm.trans h
    exact .inl (sameLeftover_setCode s _)
  · exact .inr (.inr ((nextblkNet_stream (he.symm.trans h)).trans hs))
  · exact .inr (.inr ((nextblkLocal_stream (he.symm.trans h)).trans hs))

theorem exec_leftoverStep {i : Instr} {s t : State} (h : exec i s = .next t) : LeftoverStep s t := by
  cases i with
  | ckEncode l x => exact .inl (execCkEncode_sameLeftover h)
  | ckDecode l x k => exact .inl (execCkDecode_sameLeftover h)
  | stConfigure => exact execStConfigure_leftoverStep h
  | stStart => exact execStStart_leftoverStep h
  | stNextblk m f => exact execStNextblk_leftoverStep h
  | stStop => exact execStStop_leftoverStep h
  | cvAin raw g res =>
      cases (execCvAin_eq raw g res s).symm.trans h
      exact .inl ⟨rfl, rfl, rfl⟩
  | cvTemp raw =>
      cases (execCvTemp_eq raw s).symm.trans h
      exact .inl ⟨rfl, rfl, rfl⟩
  | cvDac d => exact .inl (execCvDac_sameLeftover h)

/-! ### Bus events and the leftover -/

theorem issue_leftoverStep {w : Word} {s t : State} (h : issue w s = .next t) : LeftoverStep s t := by
  have hop : SameLeftover s (s.setOp w) := ⟨rfl, rfl, rfl⟩
  rcases issue_cases w s with ⟨i, _, he⟩ | ⟨_, _, he⟩
  · exact hop.leftoverStep (exec_leftoverStep (he.symm.trans h))
  · cases he.symm.trans h
    exact .inl ⟨rfl, rfl, rfl⟩

theorem putByte_sameLeftover (s : State) (off : Nat) (b : Byte) : SameLeftover s (putByte s off b) := by
  unfold putByte
  split <;> exact ⟨rfl, rfl, rfl⟩

theorem putBytes_sameLeftover (bs : List Byte) : ∀ (s : State) (off : Nat), SameLeftover s (putBytes s off bs) := by
  induction bs with
  | nil => exact fun s _ => SameLeftover.refl s
  | cons b bs ih => exact fun s off => (putByte_sameLeftover s off b).trans (ih _ _)

theorem writeControl_sameLeftover (s : State) (off : Nat) (v : Word) : SameLeftover s (writeControl s off v) := by
  unfold writeControl
  split <;> exact ⟨rfl, rfl, rfl⟩

theorem windowWrite_sameLeftover (s : State) (off n : Nat) (v : Word) : SameLeftover s (windowWrite s off n v) := by
  unfold windowWrite
  split
  · exact writeControl_sameLeftover s off v
  · exact putBytes_sameLeftover _ s off

theorem hostRead_sameLeftover {n addr : Nat} {s t : State} (h : hostRead n addr s = .next t) : SameLeftover s t := by
  unfold hostRead at h
  repeat' split at h
  all_goals
    cases h
    exact ⟨rfl, rfl, rfl⟩

theorem hostWrite_leftoverStep {n addr : Nat} {v : Word} {s t : State} (h : hostWrite n addr v s = .next t) :
    LeftoverStep s t := by
  have hanswered (r : Reply) (u : State) : SameLeftover u (u.answered r) := ⟨rfl, rfl, rfl⟩
  unfold hostWrite at h
  split at h
  · cases h
    exact .inl (hanswered _ s)
  · split at h
    · exact (hanswered _ s).leftoverStep (issue_leftoverStep h)
    · cases h
      exact .inl ((windowWrite_sameLeftover s _ n v).trans (hanswered _ _))

theorem handle_leftoverStep {ev : BusEvent} {s t : State} (h : handle ev s = .next t) : LeftoverStep s t := by
  cases ev with
  | read n addr => exact .inl (hostRead_sameLeftover h)
  | write n addr v => exact hostWrite_leftoverStep h
  | reset =>
      cases h
      exact .inr (.inl ⟨rfl, rfl⟩)

theorem step_leftoverStep {s t : State} (h : step s = .next t) : LeftoverStep s t := by
  rcases step_cases s with ⟨_, he⟩ | ⟨_, _, he⟩ | ⟨_, ev, rest, _, he⟩
  · cases he.symm.trans h
  · cases he.symm.trans h
    exact .inl (SameLeftover.refl s)
  · have hbus : SameLeftover s (s.setBus rest) := ⟨rfl, rfl, rfl⟩
    exact hbus.leftoverStep (handle_leftoverStep (he.symm.trans h))

/-- Settles O59, by induction on how the state is reached: every step keeps the leftover, empties it or ends in
STREAMING. -/
theorem leftoverIsEmptyOutsideStreaming : Obligations.LeftoverIsEmptyOutsideStreaming := by
  intro s hreach
  induction hreach with
  | reset c _ => exact fun _ => ⟨rfl, rfl⟩
  | present s evs _ ih => exact ih
  | step s t _ hstep ih => exact (step_leftoverStep hstep).settled ih

/-! ### The flags (R48) -/

/-- `s` with other flags: STATUS.CODE is `c` and STATUS.TRUNC is `b`. -/
def State.withFlags (s : State) (c : Code) (b : Bool) : State := (s.setCode c).setTrunc b

/-- Both answers are next states, with the same fields except TRUNC. -/
def EqualButTrunc (r r' : Result) : Prop := ∃ t b, r = .next t ∧ r' = .next (t.setTrunc b)

/-- The local path, in the words of its two parts: the usable packets, and the TRUNC it notes. -/
theorem nextblkLocal_eq (m : Nat) (s : State) : nextblkLocal m s =
    if s.pprR.toNat * s.pktR.toNat < m then raise .badOperand s
    else if usablePackets s m = [] then
      pendingBlock (m / s.pktR.toNat - (usablePackets s m).length) (afterTrunc s m)
    else emitBlock (usablePackets s m) (m / s.pktR.toNat - (usablePackets s m).length) (afterTrunc s m) := rfl

/-- A test of something else than the flags takes the same branch on both sides. -/
theorem EqualButTrunc.ite {p : Prop} {d d' : Decidable p} {q r q' r' : Result} (hq : EqualButTrunc q q')
    (hr : EqualButTrunc r r') : EqualButTrunc (@ite _ p d q r) (@ite _ p d' q' r') := by
  cases Subsingleton.elim d d'
  split
  · exact hq
  · exact hr

section
variable (s : State) (c : Code) (b : Bool)

/-! What an operation reads is the same under other flags: by unfolding where it reads single fields, by induction
where it reads by recursion. -/

@[simp] theorem State.withFlags_draws : (s.withFlags c b).draws = s.draws := rfl
@[simp] theorem State.withFlags_rbuf : (s.withFlags c b).rbuf = s.rbuf := rfl
@[simp] theorem State.withFlags_pprR : (s.withFlags c b).pprR = s.pprR := rfl
@[simp] theorem State.withFlags_pktR : (s.withFlags c b).pktR = s.pktR := rfl
@[simp] theorem inbufBytes_withFlags (d n : Nat) : inbufBytes (s.withFlags c b) d n = inbufBytes s d n := rfl

theorem firstMismatch_withFlags (d : Nat) (is : List Nat) :
    firstMismatch (s.withFlags c b) d is = firstMismatch s d is := by
  induction is with
  | nil => rfl
  | cons i is ih => rw [firstMismatch, firstMismatch, ih]; rfl

theorem convSamples_withFlags (raws : List Nat) :
    ∀ slot, convSamples (s.withFlags c b) slot raws = convSamples s slot raws := by
  induction raws with
  | nil => exact fun _ => rfl
  | cons raw raws ih => exact fun slot => by rw [convSamples, convSamples, ih]; rfl

theorem slotAfter_withFlags (n : Nat) : ∀ slot, slotAfter (s.withFlags c b) slot n = slotAfter s slot n := by
  induction n with
  | zero => exact fun _ => rfl
  | succ n ih => exact fun slot => by rw [slotAfter, slotAfter, ih]; rfl

theorem blockValues_withFlags (ps : List (List Byte)) : blockValues (s.withFlags c b) ps = blockValues s ps :=
  convSamples_withFlags s c b _ _

/-! An operation ends by writing CODE, so what is left of the other flags is TRUNC. -/

theorem raise_withFlags (k : Code) : EqualButTrunc (raise k s) (raise k (s.withFlags c b)) :=
  ⟨s.setCode k, b, rfl, rfl⟩

theorem finish_withFlags (k : Code) : EqualButTrunc (finish k s) (finish k (s.withFlags c b)) :=
  ⟨s.setCode k, b, rfl, rfl⟩

theorem pendingBlock_withFlags (dropped : Nat) :
    EqualButTrunc (pendingBlock dropped s) (pendingBlock dropped (s.withFlags c b)) :=
  finish_withFlags (s.setResults _ 0 0 0) c b .pending

theorem emitBlock_withFlags (ps : List (List Byte)) (dropped : Nat) :
    EqualButTrunc (emitBlock ps dropped s) (emitBlock ps dropped (s.withFlags c b)) := by
  unfold emitBlock
  rw [blockValues_withFlags, slotAfter_withFlags]
  exact finish_withFlags (State.setBlockResults _ ps dropped) c b .ok

/-! ### Each operation under other flags -/

theorem execCkEncode_withFlags (l : Nat) (x : Bool) :
    EqualButTrunc (execCkEncode l x s) (execCkEncode l x (s.withFlags c b)) := by
  cases x <;> exact .ite (finish_withFlags (State.drawn _ 2) c b .ok) (raise_withFlags s c b .badOperand)

theorem execCkDecode_withFlags (l : Nat) (x : Bool) (k : Nat) :
    EqualButTrunc (execCkDecode l x k s) (execCkDecode l x k (s.withFlags c b)) := by
  unfold execCkDecode
  rw [State.withFlags_draws, firstMismatch_withFlags]
  refine .ite (raise_withFlags s c b .badOperand) (.ite (raise_withFlags s c b .lengthMismatch)
    (.ite (finish_withFlags (State.drawn _ 5) c b .checksumError) ?_))
  split
  · exact finish_withFlags (State.drawn _ 5) c b .echoMismatch
  · exact finish_withFlags (State.drawn _ 5) c b .ok

theorem execStConfigure_withFlags :
    EqualButTrunc (execStConfigure s) (execStConfigure (s.withFlags c b)) :=
  .ite (raise_withFlags s c b .stateError) (.ite ⟨_, false, rfl, rfl⟩ (raise_withFlags s c b .configError))

theorem execStStart_withFlags : EqualButTrunc (execStStart s) (execStStart (s.withFlags c b)) :=
  .ite ⟨_, false, rfl, rfl⟩ (raise_withFlags s c b .stateError)

theorem execStStop_withFlags : EqualButTrunc (execStStop s) (execStStop (s.withFlags c b)) :=
  .ite (finish_withFlags (s.emptied.setStream .configured) c b .ok) (raise_withFlags s c b .stateError)

/-- The local path may set TRUNC in both states, or keeps it in both. -/
theorem afterTrunc_withFlags (m : Nat) :
    ∃ b', afterTrunc (s.withFlags c b) m = (afterTrunc s m).withFlags c b' := by
  unfold afterTrunc
  rw [State.withFlags_pktR]
  split
  · exact ⟨true, rfl⟩
  · exact ⟨b, rfl⟩

theorem nextblkLocal_withFlags (m : Nat) :
    EqualButTrunc (nextblkLocal m s) (nextblkLocal m (s.withFlags c b)) := by
  obtain ⟨b', htrunc⟩ := afterTrunc_withFlags s c b m
  rw [nextblkLocal_eq, nextblkLocal_eq, htrunc]
  exact .ite (raise_withFlags s c b .badOperand)
    (.ite (pendingBlock_withFlags _ c b' _) (emitBlock_withFlags _ c b' _ _))

theorem nextblkNet_withFlags (m : Nat) (f : Bool) :
    EqualButTrunc (nextblkNet m f s) (nextblkNet m f (s.withFlags c b)) := by
  simp only [nextblkNet, State.withFlags_rbuf, State.withFlags_pprR, State.withFlags_pktR, State.withFlags_draws,
    inbufBytes_withFlags]
  refine .ite (raise_withFlags s c b .overflow) ?_
  split
  · exact pendingBlock_withFlags (State.drawn _ 1) c b _
  · exact emitBlock_withFlags (State.drawn _ 1) c b _ _

theorem execStNextblk_withFlags (m : Nat) (f : Bool) :
    EqualButTrunc (execStNextblk m f s) (execStNextblk m f (s.withFlags c b)) :=
  .ite (raise_withFlags s c b .stateError) (.ite (raise_withFlags s c b .badOperand)
    (.ite (nextblkNet_withFlags s c b m f) (nextblkLocal_withFlags s c b m)))

theorem execCvAin_withFlags (raw g res : Nat) :
    EqualButTrunc (execCvAin raw g res s) (execCvAin raw g res (s.withFlags c b)) :=
  finish_withFlags (s.setResFloat _) c b .ok

theorem execCvTemp_withFlags (raw : Nat) :
    EqualButTrunc (execCvTemp raw s) (execCvTemp raw (s.withFlags c b)) :=
  finish_withFlags (s.setResFloat _) c b .ok

theorem execCvDac_withFlags (d : Nat) : EqualButTrunc (execCvDac d s) (execCvDac d (s.withFlags c b)) :=
  .ite (raise_withFlags s c b .badOperand) (finish_withFlags (s.setRes01 _ _) c b .ok)

theorem exec_withFlags (i : Instr) : EqualButTrunc (exec i s) (exec i (s.withFlags c b)) := by
  cases i with
  | ckEncode l x => exact execCkEncode_withFlags s c b l x
  | ckDecode l x k => exact execCkDecode_withFlags s c b l x k
  | stConfigure => exact execStConfigure_withFlags s c b
  | stStart => exact execStStart_withFlags s c b
  | stNextblk m f => exact execStNextblk_withFlags s c b m f
  | stStop => exact execStStop_withFlags s c b
  | cvAin raw g res => exact execCvAin_withFlags s c b raw g res
  | cvTemp raw => exact execCvTemp_withFlags s c b raw
  | cvDac d => exact execCvDac_withFlags s c b d

end

/-- Settles O53: other flags reach no operation's reads, and CODE is written at the end of each. -/
theorem flagsAreNeverRead : Obligations.FlagsAreNeverRead :=
  fun i s c b => exec_withFlags s c b i

end Sys2Proof.Machine

/-! ## The window as a bus access sees it (`20_memory.md` R62, R65 to R67) -/

namespace Sys2Proof.Machine

/-! ### Reserved bytes (R61, R62) -/

/-- The offsets below 0x040 are control registers (R61). -/
theorem regionOf_control {c : Config} {off : Nat} (h : off < 0x40) : regionOf c off = .control :=
  if_pos h

/-- In the control region only the word 0x01C is reserved (R61). -/
theorem reservedOffset_control {c : Config} {off : Nat} (h : off < 0x40) :
    ReservedOffset c off ↔ 0x1C ≤ off ∧ off < 0x20 := by
  simp [ReservedOffset, regionOf_control h]

/-- Beyond the control region the region alone says which bytes are reserved (R61). -/
theorem reservedOffset_beyond_control {c : Config} {off : Nat} (h : 0x40 ≤ off) :
    ReservedOffset c off ↔ regionOf c off = .reserved :=
  or_iff_left (by omega)

/-- A permitted access of the control region that takes in a reserved byte is one of the word 0x01C (R66). -/
theorem reservedWord_of_reservedOffset {c : Config} {off i : Nat} (h : off < 0x40) (halign : off % 4 = 0)
    (hi : i < 4) (hr : ReservedOffset c (off + i)) : off = 0x1C := by
  rw [reservedOffset_control (by omega)] at hr
  omega

/-- A control register shows its word, byte by byte (R63). -/
theorem windowByte_control {s : State} {off i : Nat} (h : off < 0x40) (halign : off % 4 = 0) (hi : i < 4) :
    windowByte s (off + i) = some ((controlWord s off).extractLsb' (8 * i) 8) := by
  unfold windowByte
  rw [regionOf_control (by omega)]
  have hbyte : (off + i) % 4 = i := by omega
  simp only [hbyte, Nat.add_sub_cancel]

theorem windowByte_reserved {s : State} {off : Nat} (h : ReservedOffset s.cfg off) : windowByte s off = some 0 := by
  rcases h with hregion | ⟨hlo, hhi⟩
  · unfold windowByte
    rw [hregion]
  · obtain ⟨i, rfl⟩ : ∃ i, off = 0x1C + i := ⟨off - 0x1C, by omega⟩
    rw [windowByte_control (by omega) (by omega) (by omega)]
    simp [controlWord]

/-! ### Steps at a permitted access (R66) -/

theorem step_of_bus {s : State} {ev : BusEvent} {rest : List BusEvent} (hc : s.cfg.legal = true)
    (hb : s.bus = ev :: rest) : step s = handle ev (s.setBus rest) := by
  simp [step, serve, hc, hb]

theorem hostRead_control {s : State} {n addr off : Nat} (ha : accessOffset s.cfg n addr = some off)
    (h : off < 0x40) : hostRead n addr s = .next (s.answered (.data (controlWord s off))) := by
  simp [hostRead, ha, h]

theorem hostRead_beyond_control {s : State} {n addr off : Nat} (ha : accessOffset s.cfg n addr = some off)
    (h : 0x40 ≤ off) :
    hostRead n addr s = .next ((s.answered (.data (BitVec.ofNat 32 (windowRead s off n)))).drawn 1) := by
  simp [hostRead, ha, Nat.not_lt.mpr h]

theorem hostWrite_of_ne_op {s : State} {n addr off : Nat} {v : Word} (ha : accessOffset s.cfg n addr = some off)
    (h : off ≠ 0) : hostWrite n addr v s = .next ((windowWrite s off n v).answered .ack) := by
  simp [hostWrite, ha, h]

/-! ### What a read answers (R63, R65) -/

/-- Byte `i` of bytes assembled little-endian. -/
theorem leNat_byte (bs : List Byte) : ∀ i, leNat bs / 256 ^ i % 256 = (bs.getD i 0).toNat := by
  induction bs with
  | nil => simp [leNat]
  | cons b bs ih =>
      have hb := b.isLt
      rintro (_ | i)
      · simp only [leNat, List.getD_cons_zero]
        omega
      · have htail : (b.toNat + 256 * leNat bs) / 256 = leNat bs := by omega
        rw [leNat, Nat.pow_succ', ← Nat.div_div_eq_div_mul, htail, ih, List.getD_cons_succ]

/-- The value of a read beyond the control region fits the word that carries it. -/
theorem windowRead_lt {n : Nat} (s : State) (off : Nat) (hn : n ≤ 4) : windowRead s off n < 2 ^ 32 := by
  have hbytes := leNat_lt ((List.range n).map fun i => (windowByte s (off + i)).getD (Config.freeByte s.draws (off + i)))
  rw [List.length_map, List.length_range] at hbytes
  calc windowRead s off n < 256 ^ n := hbytes
    _ ≤ 256 ^ 4 := Nat.pow_le_pow_right (by omega) hn
    _ = 2 ^ 32 := by norm_num

theorem windowRead_byte {n i : Nat} (s : State) (off : Nat) (hi : i < n) :
    windowRead s off n / 256 ^ i % 256 =
      ((windowByte s (off + i)).getD (Config.freeByte s.draws (off + i))).toNat := by
  unfold windowRead
  rw [leNat_byte]
  simp [hi]

/-- A permitted read changes only the model's own fields, and each byte of its answer is the byte that stands in the
window, or a free draw where none does (R52, R63, R65, R67). -/
theorem hostRead_permitted {s : State} {n addr off : Nat} (ha : accessOffset s.cfg n addr = some off) :
    ∃ t d, hostRead n addr s = .next t ∧ t = { s with reply := .data d, draws := t.draws } ∧
      ∀ i, i < n → d.toNat / 256 ^ i % 256 =
        ((windowByte s (off + i)).getD (Config.freeByte s.draws (off + i))).toNat := by
  obtain ⟨-, hwidth, halign, -, hword⟩ := accessOffset_some.mp ha
  rcases Nat.lt_or_ge off 0x40 with hlt | hge
  · obtain rfl := hword hlt
    refine ⟨_, _, hostRead_control ha hlt, rfl, fun i hi => ?_⟩
    rw [windowByte_control hlt halign hi, Option.getD_some, BitVec.extractLsb'_toNat, Nat.shiftRight_eq_div_pow,
      Nat.pow_mul]
  · refine ⟨_, _, hostRead_beyond_control ha hge, rfl, fun i hi => ?_⟩
    rw [BitVec.toNat_ofNat, Nat.mod_eq_of_lt (windowRead_lt s off (by omega)), windowRead_byte s off hi]

/-! ### What a write leaves (R50, R62) -/

theorem putByte_cfg_code (s : State) (off : Nat) (b : Byte) :
    (putByte s off b).cfg = s.cfg ∧ (putByte s off b).code = s.code := by
  unfold putByte
  split <;> exact ⟨rfl, rfl⟩

theorem putBytes_cfg_code (bs : List Byte) : ∀ (s : State) (off : Nat),
    (putBytes s off bs).cfg = s.cfg ∧ (putBytes s off bs).code = s.code := by
  induction bs with
  | nil => exact fun _ _ => ⟨rfl, rfl⟩
  | cons b bs ih =>
      intro s off
      obtain ⟨hcfg, hcode⟩ := putByte_cfg_code s off b
      obtain ⟨hcfg', hcode'⟩ := ih (putByte s off b) (off + 1)
      exact ⟨hcfg'.trans hcfg, hcode'.trans hcode⟩

theorem writeControl_cfg_code (s : State) (off : Nat) (v : Word) :
    (writeControl s off v).cfg = s.cfg ∧ (writeControl s off v).code = s.code := by
  unfold writeControl
  split <;> exact ⟨rfl, rfl⟩

/-- A write that issues no operation raises nothing (R67). -/
theorem windowWrite_cfg_code (s : State) (off n : Nat) (v : Word) :
    (windowWrite s off n v).cfg = s.cfg ∧ (windowWrite s off n v).code = s.code := by
  unfold windowWrite
  split
  · exact writeControl_cfg_code s off v
  · exact putBytes_cfg_code _ s off

theorem putByte_reserved {s : State} {off : Nat} (h : regionOf s.cfg off = .reserved) (b : Byte) :
    putByte s off b = s := by
  unfold putByte
  rw [h]

theorem putBytes_reserved {s : State} (bs : List Byte) : ∀ off,
    (∀ j, j < bs.length → regionOf s.cfg (off + j) = .reserved) → putBytes s off bs = s := by
  induction bs with
  | nil => exact fun _ _ => rfl
  | cons b bs ih =>
      intro off h
      rw [putBytes, putByte_reserved (off := off) (h 0 (by simp)) b]
      refine ih (off + 1) fun j hj => ?_
      rw [Nat.add_right_comm]
      exact h (j + 1) (by simpa using hj)

/-- A permitted write to reserved bytes alone is ignored (R62). -/
theorem windowWrite_reserved {s : State} {n off : Nat} (v : Word) (hn : 0 < n) (halign : off % n = 0)
    (hword : off < 0x40 → n = 4) (h : ∀ j, j < n → ReservedOffset s.cfg (off + j)) : windowWrite s off n v = s := by
  unfold windowWrite
  split
  next hlt =>
    obtain rfl := hword hlt
    obtain rfl := reservedWord_of_reservedOffset hlt halign hn (h 0 hn)
    rfl
  next hge =>
    refine putBytes_reserved _ off fun j hj => ?_
    rw [leBytes_length] at hj
    exact (reservedOffset_beyond_control (by omega)).mp (h j hj)

/-- An access that takes in a reserved byte is not one of OP. -/
theorem offset_ne_op_of_reserved {c : Config} {n off i : Nat} (hword : off < 0x40 → n = 4) (hi : i < n)
    (hr : ReservedOffset c (off + i)) : off ≠ 0 := by
  rintro rfl
  have hn := hword (by omega)
  have hword1C := reservedWord_of_reservedOffset (by omega) rfl (by omega) hr
  omega

/-- Settles O14: every byte of a read's answer is the window's byte, which is 0 where the layout reserves it, and a write
changes neither the configuration, which decides the layout, nor CODE. -/
theorem reservedBytesReadZeroAndIgnoreWrites : Obligations.ReservedBytesReadZeroAndIgnoreWrites := by
  intro s n off i v rest hc hwidth halign hwindow hword hi hr
  have ha : accessOffset (s.setBus rest).cfg n (s.cfg.base + off) = some off :=
    accessOffset_some.mpr ⟨rfl, hwidth, halign, hwindow, hword⟩
  refine ⟨windowByte_reserved hr, fun hread => ?_, fun hwrite => ?_⟩
  · obtain ⟨t, d, hstep, ht, hbytes⟩ := hostRead_permitted ha
    have hzero : windowByte (s.setBus rest) (off + i) = some 0 := windowByte_reserved hr
    refine ⟨t, d, (step_of_bus hc hread).trans hstep, ht, ?_⟩
    rw [hbytes i hi, hzero]
    rfl
  · obtain ⟨hcfg, hcode⟩ := windowWrite_cfg_code (s.setBus rest) off n v
    have hstep := (step_of_bus hc hwrite).trans (hostWrite_of_ne_op ha (offset_ne_op_of_reserved hword hi hr))
    refine ⟨_, hstep, rfl, hcode, windowByte_reserved ?_, fun hall => ?_⟩
    · rwa [State.answered_cfg, hcfg]
    · rw [windowWrite_reserved (s := s.setBus rest) v (by omega) halign hword hall]
      rfl

end Sys2Proof.Machine

/-! ## The operation word and its illegal spellings (`30_encoding.md` R90, R97 to R100) -/

namespace Sys2Proof.Machine

/-! ### A field of the word, under a mask -/

/-- The mask of bits [hi:lo] of a word. -/
def fieldMask (hi lo : Nat) : Word := BitVec.ofNat 32 ((2 ^ (hi + 1 - lo) - 1) * 2 ^ lo)

/-- Masking a field leaves its bits in place, so the field is what stands there, shifted. -/
theorem toNat_and_fieldMask (w : Word) (hi lo : Nat) :
    (w &&& fieldMask hi lo).toNat = bitField w hi lo * 2 ^ lo := by
  refine Nat.eq_of_testBit_eq fun i => ?_
  have htop : 32 ≤ i → w.toNat.testBit i = false := fun h => BitVec.testBit_toNat w ▸ BitVec.getLsbD_of_ge w i h
  simp only [fieldMask, bitField, BitVec.toNat_and, BitVec.toNat_ofNat, Nat.testBit_and, Nat.testBit_mod_two_pow,
    Nat.testBit_mul_two_pow, Nat.testBit_two_pow_sub_one, Nat.testBit_div_two_pow]
  by_cases hlo : lo ≤ i
  · rw [Nat.sub_add_cancel hlo]
    by_cases h32 : i < 32
    · simp [hlo, h32, Bool.and_comm]
    · simp [htop (Nat.le_of_not_lt h32)]
  · simp [hlo]

theorem and_fieldMask_eq_zero {w : Word} {hi lo : Nat} : w &&& fieldMask hi lo = 0#32 ↔ bitField w hi lo = 0 := by
  rw [← BitVec.toNat_inj, toNat_and_fieldMask]
  simp

/-- The opcode is the field [3:0] (R90). -/
theorem and_opcodeMask_eq {w : Word} {opc : Nat} (h : opc < 16) :
    w &&& fieldMask 3 0 = BitVec.ofNat 32 opc ↔ bitField w 3 0 = opc := by
  rw [← BitVec.toNat_inj, toNat_and_fieldMask, BitVec.toNat_ofNat, Nat.mod_eq_of_lt (by omega), Nat.pow_zero,
    Nat.mul_one]

theorem opcode_eq_mod (w : Word) : bitField w 3 0 = w.toNat % 16 := by
  simp [bitField]

theorem and_or_eq_zero {w a b : Word} : w &&& (a ||| b) = 0#32 ↔ w &&& a = 0#32 ∧ w &&& b = 0#32 := by
  rw [BitVec.and_or_distrib_left, BitVec.or_eq_zero_iff]

/-- A wider mask is no bar to a narrower one. -/
theorem and_or_and_left (w a b : Word) : w &&& (a ||| b) &&& a = w &&& a := by
  rw [BitVec.and_assoc]
  congr 1
  ext i hi
  simpa using Or.inl

/-- A value that lies under the first of two disjoint masks leaves 0 for the second. -/
theorem and_or_eq_of_disjoint {w a b m : Word} (hm : m &&& a = m) (hab : a &&& b = 0#32) :
    w &&& (a ||| b) = m ↔ w &&& a = m ∧ w &&& b = 0#32 := by
  constructor
  · rintro rfl
    have hfst := and_or_and_left w a b
    have hsnd := and_or_and_left w b a
    refine ⟨hfst.symm.trans hm, ?_⟩
    rw [← hsnd, BitVec.or_comm b, ← hm, BitVec.and_assoc, hab, BitVec.and_zero]
  · rintro ⟨ha, hb⟩
    rw [BitVec.and_or_distrib_left, ha, hb, BitVec.or_zero]

/-! ### The reserved fields of a row -/

/-- The fields, as their highest and lowest bit, that the format of an opcode marks "reserved, must be 0" (R91 to R97;
bits [6:5] of CK.ENCODE are its K). -/
def reservedFields : Nat → List (Nat × Nat)
  | 1 => [(7, 5), (31, 17)]
  | 2 => [(7, 7), (31, 17)]
  | 3 => [(31, 4)]
  | 4 => [(31, 4)]
  | 5 => [(7, 5), (31, 19)]
  | 6 => [(31, 4)]
  | 7 => [(15, 13)]
  | 8 => [(15, 4)]
  | 9 => [(31, 5)]
  | _ => []

/-- The sum of some fields of a word: the decoder's test, since it is 0 when every field is. -/
def fieldsSum (w : Word) (fields : List (Nat × Nat)) : Nat := (fields.map fun f => bitField w f.1 f.2).sum

/-- The mask of some fields. -/
def fieldsMask (fields : List (Nat × Nat)) : Word := fields.foldr (fun f mask => fieldMask f.1 f.2 ||| mask) 0#32

theorem and_fieldsMask_eq_zero {w : Word} (fields : List (Nat × Nat)) :
    w &&& fieldsMask fields = 0#32 ↔ fieldsSum w fields = 0 := by
  induction fields with
  | nil => simp [fieldsMask, fieldsSum]
  | cons f fields ih =>
      have hmask : fieldsMask (f :: fields) = fieldMask f.1 f.2 ||| fieldsMask fields := rfl
      have hsum : fieldsSum w (f :: fields) = bitField w f.1 f.2 + fieldsSum w fields := by simp [fieldsSum]
      rw [hmask, and_or_eq_zero, and_fieldMask_eq_zero, ih, hsum, Nat.add_eq_zero_iff]

/-- A row fixes the opcode and the reserved fields, and its match has 0 in the latter. -/
theorem opcodeTable_row {opc : Nat} {mask mtch : Word} (h : (opc, mask, mtch) ∈ opcodeTable) :
    (1 ≤ opc ∧ opc ≤ 9) ∧ mtch = BitVec.ofNat 32 opc ∧ mask = fieldMask 3 0 ||| fieldsMask (reservedFields opc) ∧
      mtch &&& fieldMask 3 0 = mtch ∧ fieldMask 3 0 &&& fieldsMask (reservedFields opc) = 0#32 := by
  have hrows : ∀ row ∈ opcodeTable, (1 ≤ row.1 ∧ row.1 ≤ 9) ∧ row.2.2 = BitVec.ofNat 32 row.1 ∧
      row.2.1 = fieldMask 3 0 ||| fieldsMask (reservedFields row.1) ∧ row.2.2 &&& fieldMask 3 0 = row.2.2 ∧
      fieldMask 3 0 &&& fieldsMask (reservedFields row.1) = 0#32 := by decide
  exact hrows _ h

theorem meetsRow_iff {w : Word} {opc : Nat} {mask mtch : Word} (h : (opc, mask, mtch) ∈ opcodeTable) :
    w &&& mask = mtch ↔ bitField w 3 0 = opc ∧ fieldsSum w (reservedFields opc) = 0 := by
  obtain ⟨hopc, rfl, rfl, hmatch, hdisjoint⟩ := opcodeTable_row h
  rw [and_or_eq_of_disjoint hmatch hdisjoint, and_opcodeMask_eq (by omega), and_fieldsMask_eq_zero]

/-! ### What the decoder can answer -/

theorem unlessReserved_eq_op {reserved : Nat} {i j : Instr} :
    unlessReserved reserved i = .op j ↔ reserved = 0 ∧ i = j := by
  by_cases h : reserved = 0 <;> simp [unlessReserved, h]

/-- The opcodes of operations are 1 to 9 (R97). -/
theorem exists_opcodeOf_iff {opc : Nat} : (∃ i, opcodeOf i = opc) ↔ 1 ≤ opc ∧ opc ≤ 9 := by
  constructor
  · rintro ⟨i, rfl⟩
    cases i <;> simp [opcodeOf]
  · rintro ⟨hlo, hhi⟩
    interval_cases opc
    exacts [⟨.ckEncode 0 false, rfl⟩, ⟨.ckDecode 0 false 0, rfl⟩, ⟨.stConfigure, rfl⟩, ⟨.stStart, rfl⟩,
      ⟨.stNextblk 0 false, rfl⟩, ⟨.stStop, rfl⟩, ⟨.cvAin 0 0 0, rfl⟩, ⟨.cvTemp 0, rfl⟩, ⟨.cvDac 0, rfl⟩]

/-- The decoder takes the operation that has the word's opcode and tests the reserved fields of its format; an opcode
that no operation has is reserved (R90, R98, R99). -/
theorem decode_cases (w : Word) :
    (∃ i reserved, decode w = unlessReserved reserved i ∧ opcodeOf i = bitField w 3 0 ∧
      reserved = fieldsSum w (reservedFields (opcodeOf i))) ∨
    ((∀ i, opcodeOf i ≠ bitField w 3 0) ∧ decode w = .illegal .reservedOpcode) := by
  unfold decode
  split
  case h_10 =>
    refine .inr ⟨fun i => ?_, rfl⟩
    cases i <;> exact Ne.symm (by assumption)
  all_goals
    rename_i hopc
    exact .inl ⟨_, _, rfl, hopc.symm, rfl⟩

theorem decode_eq_op {w : Word} {i : Instr} (h : decode w = .op i) :
    opcodeOf i = bitField w 3 0 ∧ fieldsSum w (reservedFields (opcodeOf i)) = 0 := by
  rcases decode_cases w with ⟨j, _, hj, hopc, rfl⟩ | ⟨-, hillegal⟩
  · obtain ⟨hzero, rfl⟩ := unlessReserved_eq_op.mp (hj.symm.trans h)
    exact ⟨hopc, hzero⟩
  · rw [hillegal] at h
    cases h

/-- A word decodes to an operation of a row exactly when it has its opcode and 0 in its reserved fields. -/
theorem exists_decode_iff {w : Word} {opc : Nat} (h : ∃ i, opcodeOf i = opc) :
    (∃ i, decode w = .op i ∧ opcodeOf i = opc) ↔ bitField w 3 0 = opc ∧ fieldsSum w (reservedFields opc) = 0 := by
  constructor
  · rintro ⟨i, hi, rfl⟩
    obtain ⟨hopc, hzero⟩ := decode_eq_op hi
    exact ⟨hopc.symm, hzero⟩
  · rintro ⟨rfl, hzero⟩
    obtain ⟨j, hj⟩ := h
    rcases decode_cases w with ⟨i, _, hi, hopc, rfl⟩ | ⟨hnone, -⟩
    · exact ⟨i, hi.trans (unlessReserved_eq_op.mpr ⟨hopc ▸ hzero, rfl⟩), hopc⟩
    · exact absurd hj (hnone j)

/-- Settles O4: both sides say that the word has the row's opcode and 0 in every reserved field. -/
theorem maskAndMatchDecideOperation : Obligations.MaskAndMatchDecideOperation := by
  intro w opc mask mtch hrow
  obtain ⟨hrange, -⟩ := opcodeTable_row hrow
  exact (meetsRow_iff hrow).trans (exists_decode_iff (exists_opcodeOf_iff.mpr hrange)).symm

/-! ### An illegal word at OP (R23, R98, R99) -/

theorem hostWrite_op {s : State} {n addr : Nat} {v : Word} (ha : accessOffset s.cfg n addr = some 0) :
    hostWrite n addr v s = issue v (s.answered .ack) := by
  simp [hostWrite, ha]

/-- A 32-bit write at BASE is permitted, and is one of OP (R60, R66). -/
theorem accessOffset_op (c : Config) : accessOffset c 4 c.base = some 0 :=
  accessOffset_some.mpr (by simp)

theorem step_at_op {s : State} {w : Word} {rest : List BusEvent} (hc : s.cfg.legal = true)
    (hb : s.bus = .write 4 s.cfg.base w :: rest) : step s = issue w ((s.setBus rest).answered .ack) :=
  (step_of_bus hc hb).trans (hostWrite_op (accessOffset_op s.cfg))

/-- A word that spells no operation does only `raise ILLEGAL_OP`, in every STATE (R98, R99). -/
theorem step_at_illegal_word {s : State} {w : Word} {rest : List BusEvent} (hc : s.cfg.legal = true)
    (hb : s.bus = .write 4 s.cfg.base w :: rest) (hw : ∀ i, decode w ≠ .op i) :
    step s = .next { s with bus := rest, reply := .ack, op := w, code := .illegalOp } := by
  rw [step_at_op hc hb]
  rcases issue_cases w ((s.setBus rest).answered .ack) with ⟨i, hi, -⟩ | ⟨_, -, hissue⟩
  · exact absurd hi (hw i)
  · exact hissue

/-- Settles O6: an operation that the word decodes to would have the row's opcode, and the word would meet the row. -/
theorem reservedBitRaisesIllegalOp : Obligations.ReservedBitRaisesIllegalOp := by
  intro s w rest mask mtch hc hb hrow hne
  refine step_at_illegal_word hc hb fun i hi => hne ?_
  obtain ⟨hopc, -⟩ := decode_eq_op hi
  exact (maskAndMatchDecideOperation w _ mask mtch hrow).mpr ⟨i, hi, hopc.trans (opcode_eq_mod w)⟩

/-- Settles O5: no operation has the word's opcode. -/
theorem reservedOpcodeRaisesIllegalOp : Obligations.ReservedOpcodeRaisesIllegalOp := by
  intro s w rest hc hb hreserved
  refine step_at_illegal_word hc hb fun i hi => ?_
  obtain ⟨hopc, -⟩ := decode_eq_op hi
  have hrange := exists_opcodeOf_iff.mp ⟨i, hopc.trans (opcode_eq_mod w)⟩
  omega

end Sys2Proof.Machine

/-! ## The codec (`40_codec.md` R120 to R131) -/

namespace Sys2Proof.Machine

/-! ### The reduction of the checksum-8 (R120, R121) -/

theorem reduce8_fold_of_pos {t : Nat} (hpos : 0 < t) (ht : t < 65536) : reduce8 .fold t = (t - 1) % 255 + 1 := by
  have hhigh : t / 256 % 256 = t / 256 := Nat.mod_eq_of_lt (by omega)
  simp only [reduce8, hhigh]
  rcases Nat.lt_or_ge (t % 256 + t / 256) 256 with hcarry | hcarry <;> omega

/-- Settles O19, from the closed form for a positive sum. -/
theorem foldedChecksumIsAResidue : Obligations.FoldedChecksumIsAResidue := by
  intro t ht
  rcases Nat.eq_zero_or_pos t with rfl | hpos
  · decide
  · rw [reduce8_fold_of_pos hpos ht]
    omega

/-- The number whose residues a reduction tells apart: FOLD keeps a sum mod 255 (R121), MOD256 mod 256 (R120). -/
def residueModulus : Ck8Reduce → Nat
  | .fold => 255
  | .mod256 => 256

theorem reduce8_mod_residueModulus (r : Ck8Reduce) {t : Nat} (ht : t < 65536) :
    reduce8 r t % residueModulus r = t % residueModulus r := by
  cases r with
  | fold =>
      obtain ⟨-, -, -, hresidue, -⟩ := foldedChecksumIsAResidue t ht
      exact hresidue
  | mod256 => exact Nat.mod_mod t 256

/-- The weight of a bit of a byte is no multiple of 255 or of 256, so adding it changes the checksum-8. -/
theorem reduce8_add_two_pow_ne (r : Ck8Reduce) {t bit : Nat} (hbit : bit < 8) (ht : t + 2 ^ bit < 65536) :
    reduce8 r (t + 2 ^ bit) ≠ reduce8 r t := by
  intro heq
  have hpos : 0 < 2 ^ bit := Nat.two_pow_pos bit
  have hsmall : 2 ^ bit ≤ 2 ^ 7 := Nat.pow_le_pow_right (by omega) (by omega)
  have hresidue : (t + 2 ^ bit) % residueModulus r = t % residueModulus r := by
    rw [← reduce8_mod_residueModulus r ht, heq, reduce8_mod_residueModulus r (by omega)]
  cases r <;> simp only [residueModulus] at hresidue <;> omega

/-! ### A frame as a function from index to byte (R103 to R105) -/

/-- The sum of frame bytes `lo` to `hi - 1` (R11). -/
def frameSum (f : Nat → Byte) (lo hi : Nat) : Nat := ∑ i ∈ Finset.Ico lo hi, (f i).toNat

/-- The checksums of a frame of length `l` (R120, R122): the pair that CK.DECODE recomputes. -/
def frameChecksums (r : Ck8Reduce) (l : Nat) (x : Bool) (f : Nat → Byte) : Nat × Nat :=
  (reduce8 r (frameSum f 1 l), if x then frameSum f 6 l % 65536 else 0)

/-- The checksums that a frame carries (R104, R105): the pair that CK.DECODE reads as stored. -/
def frameStored (x : Bool) (f : Nat → Byte) : Nat × Nat :=
  ((f 0).toNat, if x then (f 4).toNat + 256 * (f 5).toNat else 0)

theorem frameSum_lt {f : Nat → Byte} {lo hi : Nat} (h : hi ≤ 256) : frameSum f lo hi < 65536 := by
  have hbytes : frameSum f lo hi ≤ (Finset.Ico lo hi).card • 255 :=
    Finset.sum_le_card_nsmul _ _ _ fun i _ => Nat.le_of_lt_succ (f i).isLt
  rw [Nat.card_Ico, smul_eq_mul] at hbytes
  omega

/-! ### One inverted bit (R128) -/

theorem xor_eq_add_of_and_eq_zero {w : Nat} {a b : BitVec w} (h : a &&& b = 0#w) : a ^^^ b = a + b := by
  rw [BitVec.add_eq_or_of_and_eq_zero a b h]
  ext i hi
  have hbits : (a[i] && b[i]) = false := by rw [← BitVec.getElem_and, h, BitVec.getElem_zero]
  rw [BitVec.getElem_xor, BitVec.getElem_or]
  cases ha : a[i] <;> simp_all

theorem toNat_xor_twoPow_of_clear {w bit : Nat} {b : BitVec w} (hbit : bit < w) (hclear : b.getLsbD bit = false) :
    (b ^^^ BitVec.twoPow w bit).toNat = b.toNat + 2 ^ bit := by
  have hdisjoint : b &&& BitVec.twoPow w bit = 0#w := by simp [BitVec.and_twoPow, hclear]
  have hweight : 2 ^ bit < 2 ^ w := Nat.pow_lt_pow_right (by omega) hbit
  rw [xor_eq_add_of_and_eq_zero hdisjoint, BitVec.toNat_add_of_and_eq_zero hdisjoint, BitVec.toNat_twoPow,
    Nat.mod_eq_of_lt hweight]

/-- Inverting one bit adds its weight or takes it away. -/
theorem toNat_xor_twoPow {w bit : Nat} (b : BitVec w) (hbit : bit < w) :
    (b ^^^ BitVec.twoPow w bit).toNat = b.toNat + 2 ^ bit ∨
    (b ^^^ BitVec.twoPow w bit).toNat + 2 ^ bit = b.toNat := by
  cases hb : b.getLsbD bit with
  | false => exact .inl (toNat_xor_twoPow_of_clear hbit hb)
  | true =>
      refine .inr ?_
      rw [← toNat_xor_twoPow_of_clear hbit (by simp [hb, hbit]), BitVec.xor_assoc, BitVec.xor_self, BitVec.xor_zero]

/-- The frame with one bit of byte `j` inverted. -/
def flipBit (f : Nat → Byte) (j bit : Nat) : Nat → Byte := Function.update f j (f j ^^^ BitVec.twoPow 8 bit)

theorem flipBit_same (f : Nat → Byte) (j bit : Nat) : flipBit f j bit j = f j ^^^ BitVec.twoPow 8 bit :=
  Function.update_self j _ f

theorem flipBit_other {i j : Nat} (f : Nat → Byte) (bit : Nat) (h : i ≠ j) : flipBit f j bit i = f i :=
  Function.update_of_ne h _ f

theorem frameSum_flipBit_of_lt {f : Nat → Byte} {lo hi j bit : Nat} (h : j < lo) :
    frameSum (flipBit f j bit) lo hi = frameSum f lo hi :=
  Finset.sum_congr rfl fun i hi => by
    rw [flipBit_other f bit (by have := Finset.mem_Ico.mp hi; omega)]

/-- A bit inverted inside a sum adds its weight to the sum or takes it away. -/
theorem frameSum_flipBit_of_mem {f : Nat → Byte} {lo hi j bit : Nat} (hlo : lo ≤ j) (hhi : j < hi) (hbit : bit < 8) :
    frameSum (flipBit f j bit) lo hi = frameSum f lo hi + 2 ^ bit ∨
    frameSum (flipBit f j bit) lo hi + 2 ^ bit = frameSum f lo hi := by
  have hmem : j ∈ Finset.Ico lo hi := Finset.mem_Ico.mpr ⟨hlo, hhi⟩
  have hrest : ∑ i ∈ (Finset.Ico lo hi).erase j, (flipBit f j bit i).toNat =
      ∑ i ∈ (Finset.Ico lo hi).erase j, (f i).toNat :=
    Finset.sum_congr rfl fun i hi => by rw [flipBit_other f bit (Finset.ne_of_mem_erase hi)]
  have hbyte := toNat_xor_twoPow (f j) hbit
  unfold frameSum
  rw [← Finset.add_sum_erase _ _ hmem, ← Finset.add_sum_erase _ (fun i => (f i).toNat) hmem, hrest, flipBit_same]
  omega

/-- A frame that carries its checksums does not carry them with one bit inverted: in byte 0 the bit changes what is
stored, in every later byte it changes the checksum-8, of which bytes 4 and 5 are part. -/
theorem frameChecksums_flipBit_ne {r : Ck8Reduce} {l j bit : Nat} {x : Bool} {f : Nat → Byte} (hl : l ≤ 256)
    (hj : j < l) (hbit : bit < 8) (hf : frameChecksums r l x f = frameStored x f) :
    frameChecksums r l x (flipBit f j bit) ≠ frameStored x (flipBit f j bit) := by
  intro hflip
  have hck8 : reduce8 r (frameSum f 1 l) = (f 0).toNat := congrArg Prod.fst hf
  have hck8' : reduce8 r (frameSum (flipBit f j bit) 1 l) = (flipBit f j bit 0).toNat := congrArg Prod.fst hflip
  rcases Nat.eq_zero_or_pos j with rfl | hpos
  · rw [frameSum_flipBit_of_lt Nat.zero_lt_one, hck8, flipBit_same] at hck8'
    have hbyte := toNat_xor_twoPow (f 0) hbit
    have hweight : 0 < 2 ^ bit := Nat.two_pow_pos bit
    omega
  · rw [flipBit_other f bit (by omega), ← hck8] at hck8'
    have hlt : frameSum f 1 l < 65536 := frameSum_lt hl
    have hlt' : frameSum (flipBit f j bit) 1 l < 65536 := frameSum_lt hl
    rcases frameSum_flipBit_of_mem (f := f) hpos hj hbit with hsum | hsum
    · rw [hsum] at hck8' hlt'
      exact reduce8_add_two_pow_ne r hbit hlt' hck8'
    · rw [← hsum] at hck8' hlt
      exact reduce8_add_two_pow_ne r hbit hlt hck8'.symm

/-! ### A frame that stands in FBUF (R41, R52) -/

/-- Bytes `lo` to `hi - 1` of FBUF are written and hold the frame `f`. -/
def FrameHolds (s : State) (lo hi : Nat) (f : Nat → Byte) : Prop :=
  ∀ i, lo ≤ i → i < hi → memoryGet s.mem (fbufBase + i) = some (f i)

section
variable {s : State} {lo hi l : Nat} {f : Nat → Byte}

theorem FrameHolds.mono {lo' : Nat} (h : FrameHolds s lo hi f) (hlo : lo ≤ lo') : FrameHolds s lo' hi f :=
  fun i hi' => h i (hlo.trans hi')

theorem FrameHolds.fbufByte_eq {i : Nat} (h : FrameHolds s lo hi f) (d : Nat) (hlo : lo ≤ i) (hhi : i < hi) :
    fbufByte s d i = f i :=
  drawByte_of_written (h i hlo hhi) d

theorem exists_frameHolds (h : ∀ i, i < l → (memoryGet s.mem (fbufBase + i)).isSome = true) :
    ∃ f, FrameHolds s 0 l f :=
  ⟨fun i => (memoryGet s.mem (fbufBase + i)).getD 0, fun i _ hi =>
    (Option.getD_of_ne_none (Option.isSome_iff_ne_none.mp (h i hi)) 0).symm⟩

/-- A read of the frame is the bytes that each index draws. -/
theorem frameBytes_eq_map (s : State) (d lo hi : Nat) :
    frameBytes s d lo hi = (List.range (hi - lo)).map fun i => fbufByte s d (lo + i) := by
  simp only [frameBytes, drawBytes, fbufByte, Nat.add_assoc]

theorem byteSum_frameBytes (s : State) (d lo hi : Nat) :
    byteSum (frameBytes s d lo hi) = frameSum (fbufByte s d) lo hi := by
  rw [frameBytes_eq_map, frameSum, Finset.sum_Ico_eq_sum_range, byteSum, List.map_map]
  rfl

theorem FrameHolds.byteSum_eq (h : FrameHolds s lo hi f) (d : Nat) :
    byteSum (frameBytes s d lo hi) = frameSum f lo hi := by
  rw [byteSum_frameBytes]
  refine Finset.sum_congr rfl fun i hi => ?_
  obtain ⟨hlo, hhi⟩ := Finset.mem_Ico.mp hi
  rw [h.fbufByte_eq d hlo hhi]

theorem FrameHolds.ck8_eq (h : FrameHolds s 1 l f) (d : Nat) :
    ck8 s d l = reduce8 s.cfg.ck8Reduce (frameSum f 1 l) := by
  rw [ck8, h.byteSum_eq]

theorem FrameHolds.ck16_eq (h : FrameHolds s 6 l f) (d : Nat) : ck16 s d l = frameSum f 6 l % 65536 := by
  rw [ck16, h.byteSum_eq]

/-- On a written frame CK.DECODE recomputes the frame's checksums. -/
theorem FrameHolds.recomputed_eq (h : FrameHolds s 0 l f) (x : Bool) :
    recomputed s l x = frameChecksums s.cfg.ck8Reduce l x f := by
  rw [recomputed, frameChecksums, (h.mono (Nat.zero_le 1)).ck8_eq, (h.mono (Nat.zero_le 6)).ck16_eq]

/-- On a written frame CK.DECODE reads the checksums that the frame carries. -/
theorem FrameHolds.stored_eq {x : Bool} (h : FrameHolds s 0 l f) (hl : 2 ≤ l) (hext : x = true → 6 ≤ l) :
    stored s x = frameStored x f := by
  unfold stored frameStored
  rw [h.fbufByte_eq _ (Nat.zero_le 0) (by omega)]
  cases x with
  | false => rfl
  | true =>
      have hl6 : 6 ≤ l := hext rfl
      have hbytes : frameBytes s (s.draws + 3) 4 6 = [f 4, f 5] := by
        rw [frameBytes_eq_map, ← h.fbufByte_eq (s.draws + 3) (Nat.zero_le 4) (by omega),
          ← h.fbufByte_eq (s.draws + 3) (Nat.zero_le 5) (by omega)]
        rfl
      simp [hbytes, leNat]

/-- On a written frame the checksums agree when the frame carries its own. -/
theorem FrameHolds.recomputed_eq_stored_iff {x : Bool} (h : FrameHolds s 0 l f) (hl : 2 ≤ l) (hext : x = true → 6 ≤ l) :
    recomputed s l x = stored s x ↔ frameChecksums s.cfg.ck8Reduce l x f = frameStored x f := by
  rw [h.recomputed_eq, h.stored_eq hl hext]

end

/-! ### The legal lengths and the frame in the window (R41, R104, R105) -/

theorem frameLenLegal_iff {c : Config} {l : Nat} {x : Bool} : frameLenLegal c l x = true ↔ LegalFrame c l x := by
  rw [frameLenLegal, LegalFrame, Bool.and_eq_true, decide_eq_true_iff, decide_eq_true_iff, extMinLen]

theorem LegalFrame.bounds {c : Config} {l : Nat} {x : Bool} (hc : c.legal = true) (h : LegalFrame c l x) :
    2 ≤ l ∧ l ≤ 256 ∧ l ≤ c.maxFrame ∧ (x = true → 6 ≤ l) := by
  have hfacts := legal_facts hc
  obtain ⟨hmin, hmax⟩ := h
  cases x with
  | false => exact ⟨(by omega : 2 ≤ c.shortMinLen).trans hmin, by omega, hmax, nofun⟩
  | true =>
      have hl6 : 6 ≤ l := hmin
      exact ⟨by omega, by omega, hmax, fun _ => hl6⟩

theorem PayloadIndex.lt {l i : Nat} {x : Bool} (h : PayloadIndex l x i) : i < l := by
  obtain ⟨-, hlt, -⟩ := h
  exact hlt

theorem windowByte_frame {s : State} {c : Config} {i : Nat} (hcfg : s.cfg = c) (hc : c.legal = true)
    (hi : i < c.maxFrame) : windowByte s (0x400 + i) = memoryGet s.mem (fbufBase + i) := by
  subst hcfg
  exact windowByte_fbuf hc hi

/-- A frame byte is payload, the checksum-8 or, in an extended frame, one of the checksum-16 (R104, R105). -/
theorem payloadIndex_or_checksum {l i : Nat} (x : Bool) (hi : i < l) :
    PayloadIndex l x i ∨ i = 0 ∨ (x = true ∧ (i = 4 ∨ i = 5)) := by
  by_cases hck16 : x = true ∧ (i = 4 ∨ i = 5)
  · exact .inr (.inr hck16)
  · rcases Nat.eq_zero_or_pos i with hzero | hpos
    · exact .inr (.inl hzero)
    · exact .inl ⟨hpos, hi, fun hx => not_or.mp fun h => hck16 ⟨hx, h⟩⟩

/-! ### CK.ENCODE (R123, R124) -/

/-- What CK.ENCODE leaves on a frame of legal length. -/
def encodedState (s : State) (l : Nat) (x : Bool) : State :=
  ((((afterCk16 s l x).putFbuf 0 (BitVec.ofNat 8 (ck8 (afterCk16 s l x) (s.draws + 1) l))).setRes0
    (checksumWord (ck8 (afterCk16 s l x) (s.draws + 1) l) (if x then ck16 s s.draws l else 0))).drawn 2).setCode .ok

section
variable {s : State} {l : Nat} {x : Bool}

theorem execCkEncode_legal (h : LegalFrame s.cfg l x) : execCkEncode l x s = .next (encodedState s l x) := by
  rcases execCkEncode_cases l x s with ⟨hillegal, -⟩ | ⟨-, c8, c16, rfl, rfl, hdone⟩
  · cases (frameLenLegal_iff.mpr h).symm.trans hillegal
  · exact hdone

/-- CK.ENCODE ends OK on frames of legal length only. -/
theorem execCkEncode_ok {t : State} (h : execCkEncode l x s = .next t) (hok : t.code = .ok) :
    LegalFrame s.cfg l x ∧ t = encodedState s l x := by
  rcases execCkEncode_cases l x s with ⟨-, hrefused⟩ | ⟨hlegal, -⟩
  · cases hrefused.symm.trans h
    cases hok
  · have hl := frameLenLegal_iff.mp hlegal
    cases (execCkEncode_legal hl).symm.trans h
    exact ⟨hl, rfl⟩

@[simp] theorem encodedState_cfg (s : State) (l : Nat) (x : Bool) : (encodedState s l x).cfg = s.cfg := by
  simp [encodedState]

/-- The checksum-16 goes to bytes 4 and 5 of an extended frame, low byte first (R122). -/
theorem memoryGet_afterCk16 (s : State) (l : Nat) (x : Bool) (i : Nat) :
    memoryGet (afterCk16 s l x).mem (fbufBase + i) =
      if x = true ∧ (i = 4 ∨ i = 5) then some (BitVec.ofNat 8 (ck16 s s.draws l / 256 ^ (i - 4)))
      else memoryGet s.mem (fbufBase + i) := by
  cases x with
  | false => simp [afterCk16]
  | true =>
      simp only [afterCk16, if_true, State.putCk16, State.store_mem, memoryGet_store, leBytes_length,
        leBytes_getElem?, true_and]
      by_cases h : i = 4 ∨ i = 5
      · rw [if_pos (by omega), if_pos (by omega), if_pos h, Nat.add_sub_add_left]
      · rw [if_neg (by omega), if_neg h]

/-- The checksum-8 goes to byte 0, after the checksum-16 (R124). -/
theorem memoryGet_encodedState (s : State) (l : Nat) (x : Bool) (i : Nat) :
    memoryGet (encodedState s l x).mem (fbufBase + i) =
      if i = 0 then some (BitVec.ofNat 8 (ck8 (afterCk16 s l x) (s.draws + 1) l))
      else memoryGet (afterCk16 s l x).mem (fbufBase + i) := by
  have hmem : (encodedState s l x).mem = memoryStore (afterCk16 s l x).mem fbufBase
      [BitVec.ofNat 8 (ck8 (afterCk16 s l x) (s.draws + 1) l)] := rfl
  rw [hmem, memoryGet_store]
  by_cases h : i = 0
  · simp [h]
  · rw [if_neg (by rw [List.length_singleton]; omega), if_neg h]

/-- CK.ENCODE leaves the identifying bytes and the payload (R123). -/
theorem memoryGet_encodedState_payload {i : Nat} (h : PayloadIndex l x i) :
    memoryGet (encodedState s l x).mem (fbufBase + i) = memoryGet s.mem (fbufBase + i) := by
  obtain ⟨hpos, -, hck16⟩ := h
  rw [memoryGet_encodedState, if_neg (by omega), memoryGet_afterCk16, if_neg]
  rintro ⟨hx, hi⟩
  have := hck16 hx
  omega

/-- On a frame whose payload is written, CK.ENCODE leaves every byte written. -/
theorem exists_frameHolds_encodedState
    (h : ∀ i, PayloadIndex l x i → (memoryGet s.mem (fbufBase + i)).isSome = true) :
    ∃ f, FrameHolds (encodedState s l x) 0 l f := by
  refine exists_frameHolds fun i hi => ?_
  rcases payloadIndex_or_checksum x hi with hpayload | rfl | hck16
  · rw [memoryGet_encodedState_payload hpayload]
    exact h i hpayload
  · rw [memoryGet_encodedState, if_pos rfl]
    rfl
  · rw [memoryGet_encodedState, if_neg (by omega), memoryGet_afterCk16, if_pos hck16]
    rfl

/-- A frame that CK.ENCODE leaves carries its own checksums: the checksum-16 is of bytes that the operation does not
write, and the checksum-8 of the bytes as they stand in the end. -/
theorem frameChecksums_of_encodedState {f : Nat → Byte} (hl : 2 ≤ l) (hext : x = true → 6 ≤ l)
    (h : FrameHolds (encodedState s l x) 0 l f) :
    frameChecksums s.cfg.ck8Reduce l x f = frameStored x f := by
  have hafter : FrameHolds (afterCk16 s l x) 1 l f := fun i hlo hhi => by
    rw [← h i (Nat.zero_le i) hhi, memoryGet_encodedState, if_neg (by omega)]
  have hck8 : (f 0).toNat = reduce8 s.cfg.ck8Reduce (frameSum f 1 l) := by
    have hbyte := h 0 (Nat.zero_le 0) (by omega)
    rw [memoryGet_encodedState, if_pos rfl, hafter.ck8_eq, afterCk16_cfg, Option.some.injEq] at hbyte
    rw [← hbyte, BitVec.toNat_ofNat, Nat.mod_eq_of_lt (reduce8_lt _ _)]
  cases x with
  | false => exact Prod.ext hck8.symm rfl
  | true =>
      have hl6 : 6 ≤ l := hext rfl
      have hpayload : FrameHolds s 6 l f := fun i hlo hhi => by
        rw [← hafter i (by omega) hhi, memoryGet_afterCk16, if_neg (by omega)]
      have hlow := hafter 4 (by omega) (by omega)
      have hhigh := hafter 5 (by omega) (by omega)
      rw [memoryGet_afterCk16, if_pos (by simp), hpayload.ck16_eq, Option.some.injEq] at hlow hhigh
      have hck16 : (f 4).toNat + 256 * (f 5).toNat = frameSum f 6 l % 65536 := by
        rw [← hlow, ← hhigh, BitVec.toNat_ofNat, BitVec.toNat_ofNat]
        omega
      exact Prod.ext hck8.symm hck16.symm

/-- On a frame of legal length whose payload the host placed, CK.ENCODE leaves a written frame that carries its own
checksums. -/
theorem exists_encodedFrame (hc : s.cfg.legal = true) (hl : LegalFrame s.cfg l x)
    (hplaced : ∀ i, PayloadIndex l x i → (windowByte s (0x400 + i)).isSome = true) :
    ∃ f, FrameHolds (encodedState s l x) 0 l f ∧ frameChecksums s.cfg.ck8Reduce l x f = frameStored x f := by
  obtain ⟨hl2, -, hmax, hext⟩ := hl.bounds hc
  obtain ⟨f, hf⟩ := exists_frameHolds_encodedState (s := s) (l := l) (x := x) fun i hi => by
    rw [← windowByte_frame rfl hc (hi.lt.trans_le hmax)]
    exact hplaced i hi
  exact ⟨f, hf, frameChecksums_of_encodedState hl2 hext hf⟩

end

/-! ### CK.DECODE (R125, R126) -/

theorem receivedLen_eq (arg1 : Word) : receivedLen arg1 = arg1.toNat % 65536 := by
  simp [receivedLen, BitVec.extractLsb'_toNat]

theorem echoByte_eq (arg0 : Word) (i : Nat) : echoByte arg0 i = BitVec.ofNat 8 (echoNat arg0 i) := by
  refine BitVec.eq_of_toNat_eq ?_
  rw [echoByte, echoNat, BitVec.extractLsb'_toNat, BitVec.toNat_ofNat, Nat.shiftRight_eq_div_pow, Nat.pow_mul,
    Nat.mod_mod]

/-- No echo byte differs from those of a written frame that the host expects back (R102, R125). -/
theorem firstMismatch_eq_none_of_holds {s : State} {l k : Nat} {f : Nat → Byte} (h : FrameHolds s 0 l f) (hkl : k < l)
    (hecho : ∀ i, 1 ≤ i → i ≤ k → f i = BitVec.ofNat 8 (echoNat s.arg0 i)) (d : Nat) :
    firstMismatch s d (List.range' 1 k) = none := by
  refine firstMismatch_none.mpr fun i hi => ?_
  obtain ⟨hlo, hhi⟩ := List.mem_range'_1.mp hi
  rw [h.fbufByte_eq d (Nat.zero_le i) (by omega), hecho i hlo (by omega), echoByte_eq]

/-- With legal operands and the expected length, CK.DECODE judges the checksums, then the echo. -/
theorem execCkDecode_judges {l k : Nat} {x : Bool} {s : State} (hl : LegalFrame s.cfg l x) (hk : 1 ≤ k) (hkl : k < l)
    (hn : s.arg1.toNat % 65536 = l) :
    (recomputed s l x ≠ stored s x ∧
      execCkDecode l x k s = .next ((judgedState s l x 0).setCode .checksumError)) ∨
    (recomputed s l x = stored s x ∧
      ((∃ i, firstMismatch s (s.draws + 4) (List.range' 1 k) = some i ∧
        execCkDecode l x k s = .next ((judgedState s l x i).setCode .echoMismatch)) ∨
       (firstMismatch s (s.draws + 4) (List.range' 1 k) = none ∧
        execCkDecode l x k s = .next ((judgedState s l x 0).setCode .ok)))) := by
  rcases execCkDecode_cases l x k s with ⟨hbad, -⟩ | ⟨-, -, -, ⟨hlen, -⟩ | ⟨-, hjudged⟩⟩
  · rcases hbad with hillegal | hoperands
    · cases (frameLenLegal_iff.mpr hl).symm.trans hillegal
    · omega
  · exact absurd ((receivedLen_eq s.arg1).trans hn) hlen
  · exact hjudged

section
variable {s : State} {l k : Nat} {x : Bool} {f : Nat → Byte} (hc : s.cfg.legal = true) (hl : LegalFrame s.cfg l x)
  (hk : 1 ≤ k) (hkl : k < l) (hn : s.arg1.toNat % 65536 = l) (hf : FrameHolds s 0 l f)
include hc hl hk hkl hn hf

theorem execCkDecode_checksumError (hne : frameChecksums s.cfg.ck8Reduce l x f ≠ frameStored x f) :
    execCkDecode l x k s = .next ((judgedState s l x 0).setCode .checksumError) := by
  obtain ⟨hl2, -, -, hext⟩ := hl.bounds hc
  rcases execCkDecode_judges hl hk hkl hn with ⟨-, herror⟩ | ⟨hagree, -⟩
  · exact herror
  · exact absurd ((hf.recomputed_eq_stored_iff hl2 hext).mp hagree) hne

theorem execCkDecode_ok (hchecksums : frameChecksums s.cfg.ck8Reduce l x f = frameStored x f)
    (hecho : ∀ i, 1 ≤ i → i ≤ k → f i = BitVec.ofNat 8 (echoNat s.arg0 i)) :
    execCkDecode l x k s = .next ((judgedState s l x 0).setCode .ok) := by
  obtain ⟨hl2, -, -, hext⟩ := hl.bounds hc
  rcases execCkDecode_judges hl hk hkl hn with ⟨hne, -⟩ | ⟨-, ⟨i, hsome, -⟩ | ⟨-, hok⟩⟩
  · exact absurd ((hf.recomputed_eq_stored_iff hl2 hext).mpr hchecksums) hne
  · cases (firstMismatch_eq_none_of_holds hf hkl hecho _).symm.trans hsome
  · exact hok

end

/-- `s` after the host wrote ARG0 and ARG1, the operands of CK.DECODE (R102). -/
def State.withArgs (s : State) (a0 a1 : Word) : State := { s with arg0 := a0, arg1 := a1 }

@[simp] theorem State.withArgs_cfg (s : State) (a0 a1 : Word) : (s.withArgs a0 a1).cfg = s.cfg := rfl

theorem FrameHolds.withArgs {s : State} {lo hi : Nat} {f : Nat → Byte} (h : FrameHolds s lo hi f) (a0 a1 : Word) :
    FrameHolds (s.withArgs a0 a1) lo hi f := h

/-- Settles O26: the encoded frame carries its own checksums, so CK.DECODE goes on to the echo, and finds the bytes
placed. -/
theorem encodeThenDecodeRoundTrips : Obligations.EncodeThenDecodeRoundTrips := by
  intro s l x k a0 a1 hc hl hplaced hk hk3 hkl hn hecho
  obtain ⟨-, -, hmax, -⟩ := hl.bounds hc
  obtain ⟨f, hf, hchecksums⟩ := exists_encodedFrame hc hl hplaced
  have hcfg : ((encodedState s l x).withArgs a0 a1).cfg = s.cfg := by simp
  have hechoed : ∀ i, 1 ≤ i → i ≤ k → f i = BitVec.ofNat 8 (echoNat a0 i) := fun i hlo hhi => by
    have hpayload : PayloadIndex l x i := ⟨hlo, by omega, fun _ => by omega⟩
    rw [← Option.some.injEq, ← hf i (Nat.zero_le i) hpayload.lt, memoryGet_encodedState_payload hpayload,
      ← windowByte_frame rfl hc (hpayload.lt.trans_le hmax), hecho i hlo hhi]
  have hdecode := execCkDecode_ok (hcfg.symm ▸ hc) (hcfg.symm ▸ hl) hk hkl hn (hf.withArgs a0 a1)
    (hcfg.symm ▸ hchecksums) hechoed
  refine ⟨encodedState s l x, _, execCkEncode_legal hl, rfl, hdecode, rfl, fun i hi => ?_⟩
  rw [windowByte_frame (by simp) hc (hi.lt.trans_le hmax), windowByte_frame rfl hc (hi.lt.trans_le hmax),
    State.setCode_mem, judgedState_mem]
  exact memoryGet_encodedState_payload hi

/-! ### A corrupted frame (R128) -/

/-- A host write to a byte of the frame stores it (R41). -/
theorem putByte_frame {s : State} {c : Config} {i : Nat} (hcfg : s.cfg = c) (hc : c.legal = true) (hi : i < c.maxFrame)
    (b : Byte) : putByte s (0x400 + i) b = s.store (fbufBase + i) [b] := by
  subst hcfg
  have hregion : regionOf s.cfg (0x400 + i) = .fbuf := regionOf_fbuf hi (by have := legal_facts hc; omega)
  unfold putByte
  rw [hregion]
  rfl

/-- The host inverts a bit of a frame that stands in FBUF. -/
theorem FrameHolds.store_flipBit {s : State} {l j bit : Nat} {f : Nat → Byte} (h : FrameHolds s 0 l f) :
    FrameHolds (s.store (fbufBase + j) [f j ^^^ BitVec.twoPow 8 bit]) 0 l (flipBit f j bit) := by
  intro i hlo hhi
  rw [State.store_mem, memoryGet_store, List.length_singleton]
  by_cases hij : i = j
  · subst hij
    rw [if_pos (by omega), flipBit_same, Nat.sub_self]
    rfl
  · rw [if_neg (by omega), flipBit_other f bit hij]
    exact h i hlo hhi

/-- Settles O27: the encoded frame carries its own checksums, so with one bit inverted it does not. -/
theorem singleBitCorruptionIsDetected : Obligations.SingleBitCorruptionIsDetected := by
  intro s t l x k j bit b a0 a1 hc hplaced hencode hok hj hbit hb hk hkl hn
  obtain ⟨hl, rfl⟩ := execCkEncode_ok hencode hok
  obtain ⟨-, hl256, hmax, -⟩ := hl.bounds hc
  obtain ⟨f, hf, hchecksums⟩ := exists_encodedFrame hc hl hplaced
  have hcfg : (encodedState s l x).cfg = s.cfg := encodedState_cfg s l x
  obtain rfl : f j = b := by
    rw [← Option.some.injEq, ← hf j (Nat.zero_le j) hj, ← windowByte_frame hcfg hc (by omega), hb]
  rw [putByte_frame hcfg hc (by omega)]
  have hdecode := execCkDecode_checksumError
    (s := ((encodedState s l x).store (fbufBase + j) [f j ^^^ BitVec.twoPow 8 bit]).withArgs a0 a1)
    (hcfg.symm ▸ hc) (hcfg.symm ▸ hl) hk hkl hn (hf.store_flipBit.withArgs a0 a1)
    (frameChecksums_flipBit_ne hl256 hj hbit (hcfg.symm ▸ hchecksums))
  exact ⟨_, hdecode, rfl⟩

/-! ### The codec and the stream (R131) -/

/-- `s` with another STATE, RBUF and SLOT. -/
def State.withStream (s : State) (st : StreamState) (rb : List Byte) (sl : BitVec 4) : State :=
  { s with stream := st, rbuf := rb, slot := sl }

/-- Both answers are next states, alike but for STATE, RBUF and SLOT, and neither is a STATE_ERROR. -/
def EqualButStream (st : StreamState) (rb : List Byte) (sl : BitVec 4) (r r' : Result) : Prop :=
  ∃ t, r = .next t ∧ t.code ≠ .stateError ∧ r' = .next (t.withStream st rb sl)

/-- A test of something else than the stream takes the same branch on both sides. -/
theorem EqualButStream.ite {st : StreamState} {rb : List Byte} {sl : BitVec 4} {p : Prop} {d d' : Decidable p}
    {q r q' r' : Result} (hq : EqualButStream st rb sl q q') (hr : EqualButStream st rb sl r r') :
    EqualButStream st rb sl (@ite _ p d q r) (@ite _ p d' q' r') := by
  cases Subsingleton.elim d d'
  split
  · exact hq
  · exact hr

section
variable (s : State) (st : StreamState) (rb : List Byte) (sl : BitVec 4)

theorem raise_withStream {c : Code} (hc : c ≠ .stateError) :
    EqualButStream st rb sl (raise c s) (raise c (s.withStream st rb sl)) :=
  ⟨s.setCode c, rfl, hc, rfl⟩

theorem finish_withStream {c : Code} (hc : c ≠ .stateError) :
    EqualButStream st rb sl (finish c s) (finish c (s.withStream st rb sl)) :=
  raise_withStream s st rb sl hc

theorem firstMismatch_withStream (d : Nat) (is : List Nat) :
    firstMismatch (s.withStream st rb sl) d is = firstMismatch s d is := by
  induction is with
  | nil => rfl
  | cons i is ih => rw [firstMismatch, firstMismatch, ih]; rfl

theorem execCkEncode_withStream (l : Nat) (x : Bool) :
    EqualButStream st rb sl (execCkEncode l x s) (execCkEncode l x (s.withStream st rb sl)) := by
  cases x <;> exact .ite (finish_withStream (State.drawn _ 2) st rb sl (by decide))
    (raise_withStream s st rb sl (by decide))

theorem execCkDecode_withStream (l : Nat) (x : Bool) (k : Nat) :
    EqualButStream st rb sl (execCkDecode l x k s) (execCkDecode l x k (s.withStream st rb sl)) := by
  have hdraws : (s.withStream st rb sl).draws = s.draws := rfl
  unfold execCkDecode
  rw [hdraws, firstMismatch_withStream]
  refine .ite (raise_withStream s st rb sl (by decide)) (.ite (raise_withStream s st rb sl (by decide))
    (.ite (finish_withStream (State.drawn _ 5) st rb sl (by decide)) ?_))
  split <;> exact finish_withStream (State.drawn _ 5) st rb sl (by decide)

end

/-- Settles O50: what the codec reads is the same under another STATE, RBUF and SLOT, and it keeps the three. -/
theorem codecIgnoresTheStream : Obligations.CodecIgnoresTheStream := by
  intro i s st rb sl hi
  cases i with
  | ckEncode l x =>
      obtain ⟨t, ht, hcode, ht'⟩ := execCkEncode_withStream s st rb sl l x
      obtain ⟨hstream, hrbuf, hslot⟩ := execCkEncode_sameLeftover ht
      exact ⟨t, ht, hcode, hstream, hrbuf, hslot, ht'⟩
  | ckDecode l x k =>
      obtain ⟨t, ht, hcode, ht'⟩ := execCkDecode_withStream s st rb sl l x k
      obtain ⟨hstream, hrbuf, hslot⟩ := execCkDecode_sameLeftover ht
      exact ⟨t, ht, hcode, hstream, hrbuf, hslot, ht'⟩
  | _ => exact hi.elim

end Sys2Proof.Machine

/-! ## The conversions (`41_calibration.md` R150 to R162) -/

namespace Sys2Proof.Machine

/-! ### NaN (R151) -/

/-- The NaNs are the encodings whose magnitude bits lie beyond those of the infinities. -/
theorem unpack_eq_nan_iff {u : F64} : unpack u = .nan ↔ infMag < magnitude u := by
  unfold unpack magnitude infMag
  dsimp only
  split_ifs with hex hfr hex0
  · exact iff_of_false (by simp) (by omega)
  · exact iff_of_true rfl (by omega)
  · exact iff_of_false (by simp) (by omega)
  · exact iff_of_false (by simp) (by omega)

theorem magnitude_packSign {mag : Nat} (n : Bool) (h : mag < 2 ^ 63) : magnitude (packSign n mag) = mag := by
  unfold magnitude packSign
  rw [BitVec.toNat_ofNat]
  split <;> omega

/-- If `u` is a NaN, it is the canonical one. -/
def NaNCanonical (u : F64) : Prop := unpack u = .nan → u = canonicalNaN

theorem canonicalNaN_nanCanonical : NaNCanonical canonicalNaN := fun _ => rfl

/-- What is packed from at most the magnitude of an infinity is no NaN. -/
theorem packSign_nanCanonical {mag : Nat} (n : Bool) (h : mag ≤ infMag) : NaNCanonical (packSign n mag) := by
  have hlt : mag < 2 ^ 63 := h.trans_lt (by decide)
  intro hnan
  rw [unpack_eq_nan_iff, magnitude_packSign n hlt] at hnan
  exact absurd hnan h.not_gt

/-- A rounded result is at most an infinity. -/
theorem roundFloat_nanCanonical (n : Bool) (m : Nat) (e : Int) : NaNCanonical (roundFloat n m e) :=
  packSign_nanCanonical n (min_le_right _ _)

theorem NaNCanonical.ite {p : Prop} [Decidable p] {u v : F64} (hu : NaNCanonical u) (hv : NaNCanonical v) :
    NaNCanonical (if p then u else v) := by
  split
  · exact hu
  · exact hv

theorem fmul_nanCanonical (a b : F64) : NaNCanonical (fmul a b) := by
  have hinf (n : Bool) : NaNCanonical (packSign n infMag) := packSign_nanCanonical n le_rfl
  unfold fmul
  split
  · exact canonicalNaN_nanCanonical
  · exact canonicalNaN_nanCanonical
  · exact hinf _
  · exact .ite canonicalNaN_nanCanonical (hinf _)
  · exact .ite canonicalNaN_nanCanonical (hinf _)
  · exact .ite (packSign_nanCanonical _ (Nat.zero_le _)) (roundFloat_nanCanonical _ _ _)

theorem fadd_nanCanonical (a b : F64) : NaNCanonical (fadd a b) := by
  have hinf (n : Bool) : NaNCanonical (packSign n infMag) := packSign_nanCanonical n le_rfl
  unfold fadd
  split
  · exact canonicalNaN_nanCanonical
  · exact canonicalNaN_nanCanonical
  · exact .ite (hinf _) canonicalNaN_nanCanonical
  · exact hinf _
  · exact hinf _
  · exact .ite (packSign_nanCanonical _ (Nat.zero_le _)) (roundFloat_nanCanonical _ _ _)

/-! A NaN input and an invalid operation (R151). -/

theorem fmul_nan_left {a : F64} (b : F64) (h : unpack a = .nan) : fmul a b = canonicalNaN := by
  simp only [fmul, h]

theorem fmul_nan_right {b : F64} (a : F64) (h : unpack b = .nan) : fmul a b = canonicalNaN := by
  unfold fmul
  rw [h]
  cases unpack a <;> rfl

theorem fadd_nan_left {a : F64} (b : F64) (h : unpack a = .nan) : fadd a b = canonicalNaN := by
  simp only [fadd, h]

theorem fadd_nan_right {b : F64} (a : F64) (h : unpack b = .nan) : fadd a b = canonicalNaN := by
  unfold fadd
  rw [h]
  cases unpack a <;> rfl

theorem finRat_eq_zero_iff {n : Bool} {m : Nat} {e : Int} : finRat n m e = 0 ↔ m = 0 := by
  have hpow : (2 : ℚ) ^ e ≠ 0 := zpow_ne_zero e two_ne_zero
  cases n <;> simp [finRat, hpow]

theorem floatRat_eq_some {u : F64} {q : ℚ} (h : floatRat u = some q) :
    ∃ n m e, unpack u = .fin n m e ∧ finRat n m e = q := by
  unfold floatRat at h
  split at h
  case h_1 n m e hu => exact ⟨n, m, e, hu, Option.some.inj h⟩
  case h_2 => cases h

/-- Zero times an infinity, in either order, is an invalid operation. -/
theorem fmul_zero_inf {a b : F64} {n : Bool} (ha : floatRat a = some 0) (hb : unpack b = .inf n) :
    fmul a b = canonicalNaN ∧ fmul b a = canonicalNaN := by
  obtain ⟨n', m, e, hu, hzero⟩ := floatRat_eq_some ha
  obtain rfl : m = 0 := finRat_eq_zero_iff.mp hzero
  simp only [fmul, hu, hb, if_true, and_self]

theorem fadd_opposite_inf {a b : F64} {n : Bool} (ha : unpack a = .inf n) (hb : unpack b = .inf (!n)) :
    fadd a b = canonicalNaN := by
  have hne : n ≠ !n := by cases n <;> decide
  simp only [fadd, ha, hb, if_neg hne]

/-- Settles O33: every branch of fmul and fadd answers with the canonical NaN or packs at most an infinity, and a
NaN input or an invalid operation is in a branch of the first sort. -/
theorem naNResultsAreCanonical : Obligations.NaNResultsAreCanonical := by
  refine ⟨fun a b => ⟨fmul_nanCanonical a b, fadd_nanCanonical a b⟩, fun a b h => ?_,
    fun _ _ _ ha hb => fmul_zero_inf ha hb, fun _ _ _ ha hb => fadd_opposite_inf ha hb⟩
  rcases h with ha | hb
  · exact ⟨fmul_nan_left b ha, fadd_nan_left b ha⟩
  · exact ⟨fmul_nan_right a hb, fadd_nan_right a hb⟩

/-! ### CV.AIN and CV.TEMP (R152 to R156) -/

/-- An f64 result is its low 32 bits in RES0 and its high 32 bits in RES1, as numbers. -/
theorem finish_setResFloat (s : State) (c : Code) (v : F64) : finish c (s.setResFloat v) =
    .next { s with code := c, res0 := BitVec.ofNat 32 v.toNat, res1 := BitVec.ofNat 32 (v.toNat / 2 ^ 32) } := by
  have hlow : v.extractLsb' 0 32 = BitVec.ofNat 32 v.toNat := rfl
  have hhigh : v.extractLsb' 32 32 = BitVec.ofNat 32 (v.toNat / 2 ^ 32) := by
    rw [BitVec.extractLsb', Nat.shiftRight_eq_div_pow]
  rw [State.setResFloat, hlow, hhigh]
  rfl

theorem calSet_le_one (s : State) (res : Nat) : calSet s res ≤ 1 := by
  unfold calSet
  split <;> decide

/-- AIN on the pair of constants that stands in the window for the selected set and the gain (R152, R153). -/
theorem ain_of_window {s : State} {raw g res : Nat} {slope offset : F64} (hg : g < 16)
    (hslope : windowHolds s (ainSlopeAt (calSet s res) g) (leBytes 8 slope.toNat) = true)
    (hoffset : windowHolds s (ainOffsetAt (calSet s res) g) (leBytes 8 offset.toNat) = true) :
    ain s raw g res = fadd (fmul (cvt raw) slope) offset := by
  have hset := calSet_le_one s res
  have hslopeAt : 0x100 ≤ ainSlopeAt (calSet s res) g ∧ ainSlopeAt (calSet s res) g + 8 ≤ 0x300 := by
    unfold ainSlopeAt; omega
  have hoffsetAt : 0x100 ≤ ainOffsetAt (calSet s res) g ∧ ainOffsetAt (calSet s res) g + 8 ≤ 0x300 := by
    unfold ainOffsetAt; omega
  rw [ain, calFloat_of_window (by omega) (by omega) (by omega) hslope,
    calFloat_of_window (by omega) (by omega) (by omega) hoffset]

theorem temp_of_window {s : State} {raw : Nat} {slope : F64}
    (hslope : windowHolds s tempSlopeAt (leBytes 8 slope.toNat) = true) : temp s raw = fmul (cvt raw) slope := by
  rw [temp, calFloat_of_window (by decide) (by decide) (.inr (by decide)) hslope]

/-- Settles O28, by what AIN reads in the window and where CV.AIN puts it. -/
theorem cvAinAppliesTheSelectedPair : Obligations.CvAinAppliesTheSelectedPair := by
  intro s raw g res slope offset _ hg _ _ hslope hoffset v
  have hv : ain s raw g res = v := ain_of_window hg hslope hoffset
  calc exec (.cvAin raw g res) s
    _ = finish .ok (s.setResFloat (ain s raw g res)) := rfl
    _ = finish .ok (s.setResFloat v) := by rw [hv]
    _ = _ := finish_setResFloat s .ok v

/-- Settles O29, by what TEMP reads in the window and where CV.TEMP puts it. -/
theorem cvTempScalesByTempSlope : Obligations.CvTempScalesByTempSlope := by
  intro s raw slope _ hslope v
  have hv : temp s raw = v := temp_of_window hslope
  calc exec (.cvTemp raw) s
    _ = finish .ok (s.setResFloat (temp s raw)) := rfl
    _ = finish .ok (s.setResFloat v) := by rw [hv]
    _ = _ := finish_setResFloat s .ok v

/-! ### The conversions, the stream and the buffers (R162) -/

/-- `s` with another STATE, RBUF and SLOT, and other byte windows. -/
def State.withBuffers (s : State) (st : StreamState) (rb : List Byte) (sl : BitVec 4) (m : Memory) : State :=
  (s.withStream st rb sl).setMem m

section
variable (s : State) (st : StreamState) (rb : List Byte) (sl : BitVec 4) (m : Memory)

/-! The transforms read CALRAM, CALCFG and the configuration, and CV.DAC its operand registers. -/

theorem ain_withBuffers (raw g res : Nat) : ain (s.withBuffers st rb sl m) raw g res = ain s raw g res := rfl

theorem temp_withBuffers (raw : Nat) : temp (s.withBuffers st rb sl m) raw = temp s raw := rfl

theorem dac_withBuffers (v : F64) (d : Nat) : dac (s.withBuffers st rb sl m) v d = dac s v d := rfl

theorem dacVolts_withBuffers : dacVolts (s.withBuffers st rb sl m) = dacVolts s := rfl

end

/-- What a conversion does: it writes CODE, RES0 and RES1, with values that no STATE, RBUF, SLOT or byte window enters,
and never a STATE_ERROR. An absent DAC's refusal keeps the two results. -/
theorem exec_isCalOp {i : Instr} (hi : IsCalOp i) (s : State) : ∃ c a b, c ≠ .stateError ∧ ∀ st rb sl m,
    exec i (s.withBuffers st rb sl m) = .next (((s.withBuffers st rb sl m).setRes01 a b).setCode c) := by
  cases i with
  | cvAin raw g res =>
      refine ⟨.ok, (ain s raw g res).extractLsb' 0 32, (ain s raw g res).extractLsb' 32 32, by decide,
        fun st rb sl m => ?_⟩
      exact (execCvAin_eq raw g res _).trans (by rw [ain_withBuffers, State.setResFloat])
  | cvTemp raw =>
      refine ⟨.ok, (temp s raw).extractLsb' 0 32, (temp s raw).extractLsb' 32 32, by decide,
        fun st rb sl m => ?_⟩
      exact (execCvTemp_eq raw _).trans (by rw [temp_withBuffers, State.setResFloat])
  | cvDac d =>
      by_cases habsent : s.cfg.nDac ≤ d
      · exact ⟨.badOperand, s.res0, s.res1, by decide, fun _ _ _ _ => if_pos habsent⟩
      · exact ⟨.ok, BitVec.ofNat 32 (dac s (dacVolts s) d).1, BitVec.ofNat 32 (dac s (dacVolts s) d).2, by decide,
          fun st rb sl m => (if_neg habsent).trans (by rw [dac_withBuffers, dacVolts_withBuffers, finish_eq])⟩
  | _ => exact hi.elim

/-- Settles O51: the same CODE and results end the conversion from `s` and from `s` with another stream and buffers. -/
theorem conversionsIgnoreTheStreamAndBuffers : Obligations.ConversionsIgnoreTheStreamAndBuffers := by
  intro i s st rb sl m hi
  obtain ⟨c, a, b, hc, hexec⟩ := exec_isCalOp hi s
  exact ⟨(s.setRes01 a b).setCode c, hexec s.stream s.rbuf s.slot s.mem, hc, rfl, rfl, rfl, rfl, hexec st rb sl m⟩

end Sys2Proof.Machine

/-! ## The stream (`42_stream.md` R180 to R204) -/

namespace Sys2Proof.Machine

/-! ### The channel list (R27, R35, R181, R184) -/

theorem scfgNch_toNat (w : BitVec 11) : (scfgNch w).toNat = w.toNat / 2 % 32 := by
  simp [scfgNch, Nat.shiftRight_eq_div_pow]

theorem scfgNopt_toNat (w : BitVec 11) : (scfgNopt w).toNat = w.toNat / 64 % 32 := by
  simp [scfgNopt, Nat.shiftRight_eq_div_pow]

theorem entryKind_eq (e : SlotEntry) : entryKind e = e.toNat / 512 % 4 := by
  simp [entryKind, Nat.shiftRight_eq_div_pow]

/-- The two bytes of a slot entry, put together again (R63). -/
theorem entryByte_toNat (e : SlotEntry) : (entryByte e false).toNat + 256 * (entryByte e true).toNat = e.toNat := by
  have hlow : (entryByte e false).toNat = e.toNat % 256 := by simp [entryByte]
  have hhigh : (entryByte e true).toNat = e.toNat / 256 % 8 := by
    simp only [entryByte, if_true, BitVec.toNat_setWidth, BitVec.extractLsb'_toNat, Nat.shiftRight_eq_div_pow]
    omega
  have := e.isLt
  omega

theorem tableEntry_beyond {t : Vector SlotEntry 16} {i : Nat} (h : 16 ≤ i) : tableEntry t i = 0 := by
  rw [tableEntry, Vector.getElem?_eq_none h, Option.getD_none]

/-- The two window bytes of a configured slot show its CHTAB entry. -/
theorem windowByte_chtab {s : State} {i : Nat} (hi : i < 16) (hmax : i < s.cfg.maxCh) (hb : Bool) :
    windowByte s (0x40 + 2 * i + hb.toNat) = some (entryByte (tableEntry s.chtab i) hb) := by
  have hbit : hb.toNat ≤ 1 := Bool.toNat_le hb
  have hregion : regionOf s.cfg (0x40 + 2 * i + hb.toNat) = .chtab := by
    rw [regionOf, if_neg (by omega), if_pos (by omega), regionWithin, if_pos (by omega)]
  have hindex : (0x40 + 2 * i + hb.toNat - 0x40) / 2 = i := by omega
  have hparity : ((0x40 + 2 * i + hb.toNat) % 2 == 1) = hb := by
    cases hb
    · simp
    · simp
      omega
  rw [windowByte, hregion]
  simp only [hindex, hparity]

/-- Between the 16 entries of CHTAB and CALRAM the window is reserved (R61). -/
theorem windowByte_beyond_chtab {s : State} {off : Nat} (h : 0x60 ≤ off) (h' : off < 0x100) :
    windowByte s off = some 0 := by
  have hregion : regionOf s.cfg off = .reserved := by
    rw [regionOf, if_neg (by omega), if_neg (by omega), if_pos h']
  exact windowByte_reserved (.inl hregion)

/-- A slot below MAX_CH shows its CHTAB entry. No legal configuration has more than 16 slots; in another one the slots
beyond them show 0, and so is what stands for their entries. -/
theorem windowEntry_eq {s : State} {i : Nat} (hmax : i < s.cfg.maxCh) (hi : i < 32) :
    windowEntry s i = (tableEntry s.chtab i).toNat := by
  unfold windowEntry
  by_cases h16 : i < 16
  · have hlow := windowByte_chtab h16 hmax false
    have hhigh := windowByte_chtab h16 hmax true
    rw [Bool.toNat_false, Nat.add_zero] at hlow
    rw [Bool.toNat_true, show 0x40 + 2 * i + 1 = 0x41 + 2 * i by omega] at hhigh
    rw [hlow, hhigh]
    exact entryByte_toNat _
  · rw [windowByte_beyond_chtab (by omega) (by omega), windowByte_beyond_chtab (by omega) (by omega),
      tableEntry_beyond (by omega)]
    rfl

/-- A legal list has the slot count of SCFG.NCH. -/
theorem LegalChannels.eq_scfgNch {s : State} {n : Nat} (h : LegalChannels s n) : n = (scfgNch s.scfg).toNat := by
  obtain ⟨hnch, -⟩ := h
  rw [scfgNch_toNat, hnch]

theorem LegalChannels.le_maxCh {s : State} {n : Nat} (h : LegalChannels s n) : n ≤ s.cfg.maxCh := by
  obtain ⟨-, -, -, hmax, -⟩ := h
  exact hmax

/-- The check of ST.CONFIGURE, on the fields of SCFG and the entries that the window shows. -/
theorem channelsLegal_iff {s : State} : channelsLegal s = true ↔ LegalChannels s (scfgNch s.scfg).toNat := by
  have hlt : (scfgNch s.scfg).toNat < 32 := (scfgNch s.scfg).isLt
  have hkind (hmax : (scfgNch s.scfg).toNat ≤ s.cfg.maxCh) {i : Nat} (hi : i < (scfgNch s.scfg).toNat) :
      entryKind (tableEntry s.chtab i) = windowEntry s i / 512 % 4 := by
    rw [entryKind_eq, windowEntry_eq (by omega) (by omega)]
  have hlengths : scfgNch s.scfg = scfgNopt s.scfg ↔ s.scfg.toNat / 64 % 32 = (scfgNch s.scfg).toNat := by
    rw [← BitVec.toNat_inj, scfgNopt_toNat, eq_comm]
  simp only [channelsLegal, Bool.and_eq_true, beq_iff_eq, decide_eq_true_eq, List.all_eq_true, List.mem_range, hlengths]
  constructor
  · rintro ⟨⟨⟨hnopt, hpos⟩, hmax⟩, hall⟩
    exact ⟨(scfgNch_toNat _).symm, hnopt, hpos, hmax, fun i hi => hkind hmax hi ▸ hall i hi⟩
  · rintro ⟨-, hnopt, hpos, hmax, hall⟩
    exact ⟨⟨⟨hnopt, hpos⟩, hmax⟩, fun i hi => (hkind hmax hi).symm ▸ hall i hi⟩

/-! ### ST.CONFIGURE (R181 to R184) -/

/-- Settles O37: the check refuses what is no legal list for any slot count. -/
theorem stConfigureRefusesIllegalChannels : Obligations.StConfigureRefusesIllegalChannels := by
  intro s hidle hillegal
  rcases execStConfigure_cases s with ⟨hstreaming, _⟩ | ⟨_, _, he⟩ | ⟨_, hlegal, _⟩
  · exact absurd hstreaming hidle
  · exact he
  · exact absurd (channelsLegal_iff.mp hlegal) (hillegal _)

/-- What ST.CONFIGURE leaves when it completes. -/
def configuredState (s : State) : State := ((s.latched.emptied.setTrunc false).setStream .configured).setCode .ok

/-- ST.CONFIGURE completes on a legal channel list. -/
theorem execStConfigure_legal {s : State} {n : Nat} (hidle : s.stream ≠ .streaming) (h : LegalChannels s n) :
    execStConfigure s = .next (configuredState s) := by
  have hlegal : channelsLegal s = true := channelsLegal_iff.mpr (h.eq_scfgNch ▸ h)
  rw [execStConfigure, if_neg hidle, if_pos hlegal]
  rfl

theorem tableEntry_latchTable (t : Vector SlotEntry 16) (n : Nat) {i : Nat} (hi : i < 16) :
    tableEntry (latchTable t n) i = if i < n then tableEntry t i else 0 := by
  simp [tableEntry, latchTable, hi]

/-- The packets per read fit PPR_R (R30). -/
theorem packetsPerRead_le {c : Config} (hc : c.legal = true) (rate : Word) : packetsPerRead c rate ≤ 255 := by
  have := legal_facts hc
  unfold packetsPerRead
  split <;> omega

/-- The packet size of a transport is at most the network's. -/
theorem packetSize_le {c : Config} (hc : c.legal = true) (net : Bool) : packetSize c net ≤ c.pktNet := by
  have := legal_facts hc
  unfold packetSize
  split <;> omega

/-- Settles O36: on a legal list the latch is what `configuredState` holds, field by field. -/
theorem stConfigureLatchesTheConfiguration : Obligations.StConfigureLatchesTheConfiguration := by
  intro s n hc hidle hlist
  have hn : n = (scfgNch s.scfg).toNat := hlist.eq_scfgNch
  have hppr := packetsPerRead_le hc s.rate
  have hpkt := packetSize_le hc (scfgTr s.scfg)
  have hmax : n ≤ s.cfg.maxCh := hlist.le_maxCh
  have hfacts := legal_facts hc
  refine ⟨configuredState s, execStConfigure_legal hidle hlist, ?_, hn.symm, ?_, ?_, fun i hi => ?_⟩
  · rw [hn, BitVec.ofNat_toNat]
    rfl
  · exact (BitVec.toNat_ofNat _ 8).trans (Nat.mod_eq_of_lt (by omega))
  · exact (BitVec.toNat_ofNat _ 8).trans (Nat.mod_eq_of_lt (by omega))
  · have htable : (configuredState s).acttab = latchTable s.chtab n := by rw [hn]; rfl
    rw [htable, tableEntry_latchTable _ _ hi]
    split
    · rw [windowEntry_eq (by omega) (by omega)]
    · rfl

/-! ### ST.START and ST.STOP (R185, R186) -/

theorem execStStart_configured {s : State} (h : s.stream = .configured) :
    execStStart s = .next (((s.emptied.setTrunc false).setStream .streaming).setCode .ok) := if_pos h

theorem execStStop_streaming {s : State} (h : s.stream = .streaming) :
    execStStop s = .next ((s.emptied.setStream .configured).setCode .ok) := if_pos h

/-- Settles O39, by what each of the two does in the STATE that it is valid in. -/
theorem startAndStopEmptyTheBuffer : Obligations.StartAndStopEmptyTheBuffer :=
  ⟨fun _ h => execStStart_configured h, fun _ h => execStStop_streaming h⟩

/-! ### ST.NEXTBLK in STREAMING (R187) -/

/-- `t` has the configuration that is latched in `s` (R30, R31, R37). -/
def SameLatch (s t : State) : Prop :=
  t.atr = s.atr ∧ t.anch = s.anch ∧ t.acttab = s.acttab ∧ t.pprR = s.pprR ∧ t.pktR = s.pktR

theorem SameLatch.trans {s t u : State} (h : SameLatch s t) (h' : SameLatch t u) : SameLatch s u := by
  obtain ⟨hatr, hanch, hacttab, hppr, hpkt⟩ := h
  obtain ⟨hatr', hanch', hacttab', hppr', hpkt'⟩ := h'
  exact ⟨hatr'.trans hatr, hanch'.trans hanch, hacttab'.trans hacttab, hppr'.trans hppr, hpkt'.trans hpkt⟩

/-- The read goes on with the stream: it answers a next state without STATE_ERROR, in the same STATE and with the
same latch. -/
def StreamGoesOn (s : State) (r : Result) : Prop :=
  ∃ t, r = .next t ∧ t.code ≠ .stateError ∧ t.stream = s.stream ∧ SameLatch s t

/-- A refusal other than STATE_ERROR. -/
theorem streamGoesOn_setCode {s : State} {c : Code} (hc : c ≠ .stateError) : StreamGoesOn s (.next (s.setCode c)) :=
  ⟨_, rfl, hc, rfl, rfl, rfl, rfl, rfl, rfl⟩

theorem streamGoesOn_pending {s t : State} (d : Nat) (hstream : t.stream = s.stream) (h : SameLatch s t) :
    StreamGoesOn s (.next (pendingState d t)) := by
  have hlatch : SameLatch t (pendingState d t) := by simp [SameLatch]
  exact ⟨_, rfl, by simp, by rw [pendingState_stream, hstream], h.trans hlatch⟩

theorem streamGoesOn_emitted {s t : State} (ps : List (List Byte)) (d : Nat) (hstream : t.stream = s.stream)
    (h : SameLatch s t) : StreamGoesOn s (.next (emittedState ps d t)) := by
  have hlatch : SameLatch t (emittedState ps d t) := by simp [SameLatch]
  exact ⟨_, rfl, by simp, by rw [emittedState_stream, hstream], h.trans hlatch⟩

theorem nextblkLocal_goesOn (m : Nat) (s : State) : StreamGoesOn s (nextblkLocal m s) := by
  have htrunc : SameLatch s (afterTrunc s m) := by simp [SameLatch]
  rcases nextblkLocal_cases m s with ⟨_, he⟩ | ⟨_, _, he⟩ | ⟨_, _, he⟩ <;> rw [he]
  · exact streamGoesOn_setCode (by decide)
  · exact streamGoesOn_pending _ (afterTrunc_stream s m) htrunc
  · exact streamGoesOn_emitted _ _ (afterTrunc_stream s m) htrunc

theorem nextblkNet_goesOn (m : Nat) (f : Bool) (s : State) : StreamGoesOn s (nextblkNet m f s) := by
  have hrbuf (b : List Byte) : SameLatch s ((s.setRbuf b).drawn 1) := ⟨rfl, rfl, rfl, rfl, rfl⟩
  rcases nextblkNet_cases m f s with ⟨_, he⟩ | ⟨_, _, he⟩ | ⟨_, n, _, he⟩ <;> rw [he]
  · exact streamGoesOn_setCode (by decide)
  · exact streamGoesOn_pending _ rfl (hrbuf _)
  · exact streamGoesOn_emitted _ _ rfl (hrbuf _)

theorem execStNextblk_net {m : Nat} {s : State} (f : Bool) (hs : s.stream = .streaming) (hatr : s.atr = true)
    (hm : m ≤ s.cfg.inbufSize) : execStNextblk m f s = nextblkNet m f s := by
  simp [execStNextblk, hs, hatr, hm.not_gt]

theorem execStNextblk_local {m : Nat} {s : State} (f : Bool) (hs : s.stream = .streaming) (hatr : s.atr = false)
    (hm : m ≤ s.cfg.inbufSize) : execStNextblk m f s = nextblkLocal m s := by
  simp [execStNextblk, hs, hatr, hm.not_gt]

/-- In STREAMING, ST.NEXTBLK stays there and keeps the latch, whatever its operands and its status. -/
theorem execStNextblk_goesOn {s : State} (m : Nat) (f : Bool) (h : s.stream = .streaming) :
    StreamGoesOn s (execStNextblk m f s) := by
  rcases execStNextblk_cases m f s with ⟨hne, _⟩ | ⟨_, _, he⟩ | ⟨_, _, _, he⟩ | ⟨_, _, _, he⟩
  · exact absurd h hne
  · exact he ▸ streamGoesOn_setCode (by decide)
  · exact he ▸ nextblkNet_goesOn m f s
  · exact he ▸ nextblkLocal_goesOn m s

/-! ### The state table (R180) -/

theorem streamTable_stConfigure (st : StreamState) :
    streamTable .stConfigure st = if st = .streaming then none else some .configured := by cases st <;> rfl

theorem streamTable_stStart (st : StreamState) :
    streamTable .stStart st = if st = .configured then some .streaming else none := by cases st <;> rfl

theorem streamTable_stNextblk (m : Nat) (f : Bool) (st : StreamState) :
    streamTable (.stNextblk m f) st = if st = .streaming then some .streaming else none := by cases st <;> rfl

theorem streamTable_stStop (st : StreamState) :
    streamTable .stStop st = if st = .streaming then some .configured else none := by cases st <;> rfl

/-- An operation outside the table keeps STATE (R131, R162). -/
theorem exec_outside_table {i : Instr} (hi : IsCodecOp i ∨ IsCalOp i) (s : State) :
    ∃ t, exec i s = .next t ∧ t.code ≠ .stateError ∧
      (t.stream = s.stream ∨ (i = .stConfigure ∧ t.code = .configError ∧ t.stream = s.stream)) := by
  rcases hi with hi | hi
  · obtain ⟨t, ht, hcode, hstream, -⟩ := codecIgnoresTheStream i s s.stream s.rbuf s.slot hi
    exact ⟨t, ht, hcode, .inl hstream⟩
  · obtain ⟨t, ht, hcode, hstream, -⟩ := conversionsIgnoreTheStreamAndBuffers i s s.stream s.rbuf s.slot s.mem hi
    exact ⟨t, ht, hcode, .inl hstream⟩

/-- Settles O38, operation by operation: what each can do, against its row of the table. -/
theorem stateMovesOnlyAsTheTableSays : Obligations.StateMovesOnlyAsTheTableSays := by
  intro i s
  cases i with
  | stConfigure =>
      rw [streamTable_stConfigure]
      rcases execStConfigure_cases s with ⟨hs, he⟩ | ⟨hs, _, he⟩ | ⟨hs, _, he⟩
      · rw [if_pos hs]
        exact he
      · rw [if_neg hs]
        exact ⟨_, he, by simp, .inr ⟨rfl, rfl, rfl⟩⟩
      · rw [if_neg hs]
        exact ⟨_, he, by simp, .inl rfl⟩
  | stStart =>
      rw [streamTable_stStart]
      rcases execStStart_cases s with ⟨hs, he⟩ | ⟨hs, he⟩
      · rw [if_neg hs]
        exact he
      · rw [if_pos hs]
        exact ⟨_, he, by simp, .inl rfl⟩
  | stNextblk m f =>
      rw [streamTable_stNextblk]
      by_cases hs : s.stream = .streaming
      · rw [if_pos hs]
        obtain ⟨t, he, hcode, hstream, -⟩ := execStNextblk_goesOn m f hs
        exact ⟨t, he, hcode, .inl (hstream.trans hs)⟩
      · rw [if_neg hs]
        exact if_pos hs
  | stStop =>
      rw [streamTable_stStop]
      rcases execStStop_cases s with ⟨hs, he⟩ | ⟨hs, he⟩
      · rw [if_neg hs]
        exact he
      · rw [if_pos hs]
        exact ⟨_, he, by simp, .inl rfl⟩
  | ckEncode | ckDecode => exact exec_outside_table (.inl (by exact trivial)) s
  | cvAin | cvTemp | cvDac => exact exec_outside_table (.inr (by exact trivial)) s

/-! ### Restart (R204) -/

/-- A list of reads keeps STREAMING and the latch. -/
theorem nextblks_goesOn : ∀ (ops : List (Nat × Bool)) {s : State}, s.stream = .streaming →
    ∃ t, nextblks ops s = .next t ∧ t.stream = .streaming ∧ SameLatch s t
  | [], s, h => ⟨s, rfl, h, rfl, rfl, rfl, rfl, rfl⟩
  | (m, f) :: ops, s, h => by
      obtain ⟨t, he, -, hstream, hlatch⟩ := execStNextblk_goesOn m f h
      obtain ⟨u, hu, hstream', hlatch'⟩ := nextblks_goesOn ops (hstream.trans h)
      have hread : nextblks ((m, f) :: ops) s = nextblks ops t := by simp only [nextblks, exec, he]
      exact ⟨u, hread.trans hu, hstream', hlatch.trans hlatch'⟩

/-- Settles O49: the reads and the two operations before the second START each keep the latch, and are each in the STATE
that the next one needs. -/
theorem restartKeepsTheConfiguration : Obligations.RestartKeepsTheConfiguration := by
  intro s ops hs
  obtain ⟨s2, hreads, hstreaming, hatr, hanch, hacttab, hppr, hpkt⟩ :=
    nextblks_goesOn ops (s := ((s.emptied.setTrunc false).setStream .streaming).setCode .ok) rfl
  exact ⟨_, s2, _, _, execStStart_configured hs, hreads, execStStop_streaming hstreaming, execStStart_configured rfl,
    rfl, rfl, rfl, rfl, rfl, rfl, hatr, hanch, hacttab, hppr, hpkt⟩

/-! ### A read of zero bytes (R198) and OVERFLOW (R199) -/

/-- Under the invariant the configuration is legal and RBUF holds at most its capacity. -/
theorem State.Inv.legal_rbuf {s : State} (h : s.Inv) : s.cfg.legal = true ∧ s.rbuf.length ≤ s.cfg.rbufCap := by
  simp only [State.Inv, State.inv, leftoverLegal, Bool.and_eq_true, decide_eq_true_eq] at h
  obtain ⟨⟨⟨⟨hlegal, -⟩, -⟩, -⟩, ⟨⟨hrbuf, -⟩, -⟩, -⟩ := h
  exact ⟨hlegal, hrbuf⟩

/-- Under the invariant, what is latched outside IDLE is a packet count and a packet size of the configuration. -/
theorem State.Inv.latch {s : State} (h : s.Inv) (hs : s.stream ≠ .idle) :
    (s.pprR.toNat = s.cfg.pprLo ∨ s.pprR.toNat = s.cfg.pprHi) ∧ s.pktR.toNat = packetSize s.cfg s.atr := by
  simp only [State.Inv, State.inv, latchLegal, if_neg hs, Bool.and_eq_true, Bool.or_eq_true, beq_iff_eq] at h
  obtain ⟨⟨-, ⟨-, hppr⟩, hpkt⟩, -⟩ := h
  exact ⟨hppr, hpkt⟩

/-- A full batch is at most PPR_HI packets of the network's size (R8, R199). -/
theorem State.Inv.batch_le {s : State} (h : s.Inv) (hs : s.stream ≠ .idle) :
    s.pprR.toNat * s.pktR.toNat ≤ s.cfg.pprHi * s.cfg.pktNet := by
  obtain ⟨hlegal, -⟩ := h.legal_rbuf
  obtain ⟨hppr, hpkt⟩ := h.latch hs
  have hfacts := legal_facts hlegal
  exact Nat.mul_le_mul (by omega) (hpkt ▸ packetSize_le hlegal s.atr)

theorem appended_zero (s : State) : appended s 0 = s.rbuf := List.append_nil _

/-- On the network path a read of zero bytes emits a full batch that is held, flush or not. -/
theorem execStNextblk_zero_batch {s : State} (f : Bool) (hs : s.stream = .streaming) (hatr : s.atr = true)
    (hcap : s.rbuf.length ≤ s.cfg.rbufCap) (hheld : s.pprR.toNat * s.pktR.toNat ≤ s.rbuf.length) :
    ∃ t, execStNextblk 0 f s = .next t ∧ t.code = .ok ∧ t.res0 = BitVec.ofNat 32 s.pprR.toNat ∧
      t.rbuf = s.rbuf.drop (s.pprR.toNat * s.pktR.toNat) := by
  have hpath : execStNextblk 0 f s = nextblkNet 0 f s := execStNextblk_net f hs hatr (Nat.zero_le _)
  have hbatch : netPackets s.pprR.toNat s.pktR.toNat (s.rbuf.length + 0) f = some s.pprR.toNat := if_pos hheld
  rcases nextblkNet_cases 0 f s with ⟨hover, _⟩ | ⟨_, hnone, _⟩ | ⟨_, n, hn, he⟩
  · omega
  · cases hbatch.symm.trans hnone
  · cases hbatch.symm.trans hn
    exact ⟨_, hpath.trans he, by simp, by simp, by simp [appended_zero]⟩

/-- On the network path a read of zero bytes without a flush is PENDING when less than a full batch is held. -/
theorem nextblkNet_zero_pending {s : State} (hcap : s.rbuf.length ≤ s.cfg.rbufCap)
    (hless : s.rbuf.length < s.pprR.toNat * s.pktR.toNat) :
    nextblkNet 0 false s = .next (pendingState 0 (s.drawn 1)) := by
  have hnone : netPackets s.pprR.toNat s.pktR.toNat (s.rbuf.length + 0) false = none := by
    simp [netPackets, hless]
  rcases nextblkNet_cases 0 false s with ⟨hover, _⟩ | ⟨_, _, he⟩ | ⟨_, n, hn, _⟩
  · omega
  · rw [he, appended_zero]
    rfl
  · cases hnone.symm.trans hn

/-- On the local path a read of zero bytes is PENDING: it holds no packet, and no partial one. -/
theorem nextblkLocal_zero_pending (s : State) : nextblkLocal 0 s = .next (pendingState 0 (s.drawn 1)) := by
  have hnone : usablePackets s 0 = [] := by simp [usablePackets, packets]
  have hwhole : afterTrunc s 0 = s.drawn 1 := by simp [afterTrunc]
  rcases nextblkLocal_cases 0 s with ⟨hlong, _⟩ | ⟨_, _, he⟩ | ⟨_, hsome, _⟩
  · omega
  · rw [he, hwhole, Nat.zero_div]
  · exact absurd hnone hsome

/-- Settles O46, path by path. -/
theorem zeroByteReadIsPendingUnlessABatchIsHeld : Obligations.ZeroByteReadIsPendingUnlessABatchIsHeld := by
  intro s f hinv hs
  obtain ⟨-, hcap⟩ := hinv.legal_rbuf
  refine ⟨fun hnet => ⟨pendingState 0 (s.drawn 1), ?_, rfl⟩,
    fun hatr hheld => execStNextblk_zero_batch f hs hatr hcap hheld⟩
  cases hatr : s.atr with
  | true =>
      obtain ⟨rfl, hless⟩ := hnet hatr
      exact (execStNextblk_net false hs hatr (Nat.zero_le _)).trans (nextblkNet_zero_pending hcap hless)
  | false => exact (execStNextblk_local f hs hatr (Nat.zero_le _)).trans (nextblkLocal_zero_pending s)

/-- Settles O45: a read of at most INBUF_SIZE bytes overflows RBUF only when RBUF holds a full batch (R8), and that is
what the next read of zero bytes emits. -/
theorem overflowIsRecoverable : Obligations.OverflowIsRecoverable := by
  intro s m f f' hinv hs hatr hm hover
  obtain ⟨hlegal, hcap⟩ := hinv.legal_rbuf
  have hbatch := hinv.batch_le (by rw [hs]; decide)
  have hfacts := legal_facts hlegal
  have hheld : s.pprR.toNat * s.pktR.toNat ≤ s.rbuf.length := by omega
  have hoverflow : execStNextblk m f s = .next (s.setCode .overflow) :=
    (execStNextblk_net f hs hatr hm).trans (if_pos hover)
  obtain ⟨u, hu, hok, hres0, hrbuf⟩ :=
    execStNextblk_zero_batch (s := s.setCode .overflow) f' hs hatr hcap hheld
  have hdrop : u.rbuf = s.rbuf.drop (s.pprR.toNat * s.pktR.toNat) := hrbuf
  refine ⟨hoverflow, u, hu, hok, hres0, ?_⟩
  rw [hdrop, List.length_drop]
  omega

end Sys2Proof.Machine

/-! ## Refused accesses (`60_exceptions.md` R232) -/

namespace Sys2Proof.Machine

/-- An access has no window offset exactly when it breaks a rule of R66. -/
theorem accessOffset_eq_none {c : Config} {n addr : Nat} :
    accessOffset c n addr = none ↔
      addr < c.base ∨ (n ≠ 1 ∧ n ≠ 2 ∧ n ≠ 4) ∨ (addr - c.base) % n ≠ 0 ∨ 0x2000 < addr - c.base + n ∨
        (addr - c.base < 0x40 ∧ n ≠ 4) := by
  constructor
  · intro hnone
    by_contra hkept
    have hsome : accessOffset c n addr = some (addr - c.base) :=
      accessOffset_some.mpr ⟨by omega, by omega, by omega, by omega, by omega⟩
    cases hnone.symm.trans hsome
  · intro hbroken
    refine Option.eq_none_iff_forall_ne_some.mpr fun off hsome => ?_
    obtain ⟨rfl, hwidth, halign, hwindow, hword⟩ := accessOffset_some.mp hsome
    rw [Nat.add_sub_cancel_left] at hbroken
    omega

theorem hostRead_refused {s : State} {n addr : Nat} (ha : accessOffset s.cfg n addr = none) :
    hostRead n addr s = .next (s.answered .busError) := by
  simp [hostRead, ha]

theorem hostWrite_refused {s : State} {n addr : Nat} {v : Word} (ha : accessOffset s.cfg n addr = none) :
    hostWrite n addr v s = .next (s.answered .busError) := by
  simp [hostWrite, ha]

/-- Settles O8: the access has no window offset, so only its answer is recorded, and OP is not reached. -/
theorem refusedAccessIsABusError : Obligations.RefusedAccessIsABusError := by
  intro s n addr v rest hc hbus hbroken
  have ha : accessOffset (s.setBus rest).cfg n addr = none := accessOffset_eq_none.mpr hbroken
  rcases hbus with hread | hwrite
  · exact (step_of_bus hc hread).trans (hostRead_refused ha)
  · exact (step_of_bus hc hwrite).trans (hostWrite_refused ha)

end Sys2Proof.Machine

/-! ## The configuration registers (`70_reset_and_hazards.md` R267) -/

namespace Sys2Proof.Machine

/-- `s` with another SCFG, RATE and CHTAB. -/
def State.withConfigRegs (s : State) (sc : BitVec 11) (r : Word) (tab : Vector SlotEntry 16) : State :=
  { s with scfg := sc, rate := r, chtab := tab }

/-- Both answers are next states, alike but for SCFG, RATE and CHTAB, which the second one still holds as given. -/
def EqualButConfigRegs (sc : BitVec 11) (r : Word) (tab : Vector SlotEntry 16) (o o' : Result) : Prop :=
  ∃ t, o = .next t ∧ o' = .next (t.withConfigRegs sc r tab)

/-- A test of something else than the three registers takes the same branch on both sides. -/
theorem EqualButConfigRegs.ite {sc : BitVec 11} {r : Word} {tab : Vector SlotEntry 16} {p : Prop} {d d' : Decidable p}
    {o q o' q' : Result} (ho : EqualButConfigRegs sc r tab o o') (hq : EqualButConfigRegs sc r tab q q') :
    EqualButConfigRegs sc r tab (@ite _ p d o q) (@ite _ p d' o' q') := by
  cases Subsingleton.elim d d'
  split
  · exact ho
  · exact hq

section
variable (s : State) (sc : BitVec 11) (r : Word) (tab : Vector SlotEntry 16)

/-! What the operations other than ST.CONFIGURE read: INBUF, RBUF and the latched PPR_R and PKT_R, FBUF and the echo,
and the latched ACTTAB, ANCH and calibration through the recursion over samples. -/

@[simp] theorem State.withConfigRegs_draws : (s.withConfigRegs sc r tab).draws = s.draws := rfl
@[simp] theorem State.withConfigRegs_rbuf : (s.withConfigRegs sc r tab).rbuf = s.rbuf := rfl
@[simp] theorem State.withConfigRegs_pprR : (s.withConfigRegs sc r tab).pprR = s.pprR := rfl
@[simp] theorem State.withConfigRegs_pktR : (s.withConfigRegs sc r tab).pktR = s.pktR := rfl
@[simp] theorem inbufBytes_withConfigRegs (d n : Nat) :
    inbufBytes (s.withConfigRegs sc r tab) d n = inbufBytes s d n := rfl

theorem firstMismatch_withConfigRegs (d : Nat) (is : List Nat) :
    firstMismatch (s.withConfigRegs sc r tab) d is = firstMismatch s d is := by
  induction is with
  | nil => rfl
  | cons i is ih => rw [firstMismatch, firstMismatch, ih]; rfl

theorem convSamples_withConfigRegs (raws : List Nat) :
    ∀ slot, convSamples (s.withConfigRegs sc r tab) slot raws = convSamples s slot raws := by
  induction raws with
  | nil => exact fun _ => rfl
  | cons raw raws ih => exact fun slot => by rw [convSamples, convSamples, ih]; rfl

theorem slotAfter_withConfigRegs (n : Nat) :
    ∀ slot, slotAfter (s.withConfigRegs sc r tab) slot n = slotAfter s slot n := by
  induction n with
  | zero => exact fun _ => rfl
  | succ n ih => exact fun slot => by rw [slotAfter, slotAfter, ih]; rfl

theorem blockValues_withConfigRegs (ps : List (List Byte)) :
    blockValues (s.withConfigRegs sc r tab) ps = blockValues s ps :=
  convSamples_withConfigRegs s sc r tab _ _

theorem afterTrunc_withConfigRegs (m : Nat) :
    afterTrunc (s.withConfigRegs sc r tab) m = (afterTrunc s m).withConfigRegs sc r tab := by
  unfold afterTrunc
  rw [State.withConfigRegs_pktR]
  split <;> rfl

/-! How an operation ends: none of the ends writes the three registers. -/

theorem raise_withConfigRegs (c : Code) :
    EqualButConfigRegs sc r tab (raise c s) (raise c (s.withConfigRegs sc r tab)) :=
  ⟨s.setCode c, rfl, rfl⟩

theorem finish_withConfigRegs (c : Code) :
    EqualButConfigRegs sc r tab (finish c s) (finish c (s.withConfigRegs sc r tab)) :=
  raise_withConfigRegs s sc r tab c

theorem pendingBlock_withConfigRegs (dropped : Nat) :
    EqualButConfigRegs sc r tab (pendingBlock dropped s) (pendingBlock dropped (s.withConfigRegs sc r tab)) :=
  finish_withConfigRegs (s.setResults _ 0 0 0) sc r tab .pending

theorem emitBlock_withConfigRegs (ps : List (List Byte)) (dropped : Nat) :
    EqualButConfigRegs sc r tab (emitBlock ps dropped s) (emitBlock ps dropped (s.withConfigRegs sc r tab)) := by
  unfold emitBlock
  rw [blockValues_withConfigRegs, slotAfter_withConfigRegs]
  exact finish_withConfigRegs (State.setBlockResults _ ps dropped) sc r tab .ok

/-! ### Each operation under another SCFG, RATE and CHTAB -/

theorem execCkEncode_withConfigRegs (l : Nat) (x : Bool) :
    EqualButConfigRegs sc r tab (execCkEncode l x s) (execCkEncode l x (s.withConfigRegs sc r tab)) := by
  cases x <;> exact .ite (finish_withConfigRegs (State.drawn _ 2) sc r tab .ok)
    (raise_withConfigRegs s sc r tab .badOperand)

theorem execCkDecode_withConfigRegs (l : Nat) (x : Bool) (k : Nat) :
    EqualButConfigRegs sc r tab (execCkDecode l x k s) (execCkDecode l x k (s.withConfigRegs sc r tab)) := by
  unfold execCkDecode
  rw [State.withConfigRegs_draws, firstMismatch_withConfigRegs]
  refine .ite (raise_withConfigRegs s sc r tab .badOperand) (.ite (raise_withConfigRegs s sc r tab .lengthMismatch)
    (.ite (finish_withConfigRegs (State.drawn _ 5) sc r tab .checksumError) ?_))
  split <;> exact finish_withConfigRegs (State.drawn _ 5) sc r tab _

theorem execStStart_withConfigRegs :
    EqualButConfigRegs sc r tab (execStStart s) (execStStart (s.withConfigRegs sc r tab)) :=
  .ite (finish_withConfigRegs ((s.emptied.setTrunc false).setStream .streaming) sc r tab .ok)
    (raise_withConfigRegs s sc r tab .stateError)

theorem execStStop_withConfigRegs :
    EqualButConfigRegs sc r tab (execStStop s) (execStStop (s.withConfigRegs sc r tab)) :=
  .ite (finish_withConfigRegs (s.emptied.setStream .configured) sc r tab .ok)
    (raise_withConfigRegs s sc r tab .stateError)

theorem nextblkLocal_withConfigRegs (m : Nat) :
    EqualButConfigRegs sc r tab (nextblkLocal m s) (nextblkLocal m (s.withConfigRegs sc r tab)) := by
  rw [nextblkLocal_eq, nextblkLocal_eq, afterTrunc_withConfigRegs]
  exact .ite (raise_withConfigRegs s sc r tab .badOperand)
    (.ite (pendingBlock_withConfigRegs _ sc r tab _) (emitBlock_withConfigRegs _ sc r tab _ _))

theorem nextblkNet_withConfigRegs (m : Nat) (f : Bool) :
    EqualButConfigRegs sc r tab (nextblkNet m f s) (nextblkNet m f (s.withConfigRegs sc r tab)) := by
  simp only [nextblkNet, State.withConfigRegs_rbuf, State.withConfigRegs_pprR, State.withConfigRegs_pktR,
    State.withConfigRegs_draws, inbufBytes_withConfigRegs]
  refine .ite (raise_withConfigRegs s sc r tab .overflow) ?_
  split
  · exact pendingBlock_withConfigRegs (State.drawn _ 1) sc r tab _
  · exact emitBlock_withConfigRegs (State.drawn _ 1) sc r tab _ _

theorem execStNextblk_withConfigRegs (m : Nat) (f : Bool) :
    EqualButConfigRegs sc r tab (execStNextblk m f s) (execStNextblk m f (s.withConfigRegs sc r tab)) :=
  .ite (raise_withConfigRegs s sc r tab .stateError) (.ite (raise_withConfigRegs s sc r tab .badOperand)
    (.ite (nextblkNet_withConfigRegs s sc r tab m f) (nextblkLocal_withConfigRegs s sc r tab m)))

theorem execCvAin_withConfigRegs (raw g res : Nat) :
    EqualButConfigRegs sc r tab (execCvAin raw g res s) (execCvAin raw g res (s.withConfigRegs sc r tab)) :=
  finish_withConfigRegs (s.setResFloat (ain s raw g res)) sc r tab .ok

theorem execCvTemp_withConfigRegs (raw : Nat) :
    EqualButConfigRegs sc r tab (execCvTemp raw s) (execCvTemp raw (s.withConfigRegs sc r tab)) :=
  finish_withConfigRegs (s.setResFloat (temp s raw)) sc r tab .ok

theorem execCvDac_withConfigRegs (d : Nat) :
    EqualButConfigRegs sc r tab (execCvDac d s) (execCvDac d (s.withConfigRegs sc r tab)) :=
  .ite (raise_withConfigRegs s sc r tab .badOperand) (finish_withConfigRegs (s.setRes01 _ _) sc r tab .ok)

end

/-- Settles O52, operation by operation: after CONFIGURE the stream runs on its latched copies, and the codec and the
conversions read none of the three. -/
theorem configurationRegistersActOnlyAtConfigure : Obligations.ConfigurationRegistersActOnlyAtConfigure := by
  intro i s sc r tab hi
  cases i with
  | ckEncode l x => exact execCkEncode_withConfigRegs s sc r tab l x
  | ckDecode l x k => exact execCkDecode_withConfigRegs s sc r tab l x k
  | stConfigure => exact absurd rfl hi
  | stStart => exact execStStart_withConfigRegs s sc r tab
  | stNextblk m f => exact execStNextblk_withConfigRegs s sc r tab m f
  | stStop => exact execStStop_withConfigRegs s sc r tab
  | cvAin raw g res => exact execCvAin_withConfigRegs s sc r tab raw g res
  | cvTemp raw => exact execCvTemp_withConfigRegs s sc r tab raw
  | cvDac d => exact execCvDac_withConfigRegs s sc r tab d

end Sys2Proof.Machine

/-! ## Words and operations, back and forth (`30_encoding.md` R90 to R97, R100, R109) -/

namespace Sys2Proof.Machine

/-! ### From an operation to its word and back -/

/-- The number of a well-formed operation fits a word (R90). -/
theorem encodeNat_lt {i : Instr} (h : i.WellFormed) : encodeNat i < 2 ^ 32 := by
  cases i with
  | ckEncode l x => exact Laws.EncodeBound.ckEncode l x h
  | ckDecode l x k => exact Laws.EncodeBound.ckDecode l x k h
  | stConfigure => exact Laws.EncodeBound.stConfigure h
  | stStart => exact Laws.EncodeBound.stStart h
  | stNextblk m f => exact Laws.EncodeBound.stNextblk m f h
  | stStop => exact Laws.EncodeBound.stStop h
  | cvAin raw g res => exact Laws.EncodeBound.cvAin raw g res h
  | cvTemp raw => exact Laws.EncodeBound.cvTemp raw h
  | cvDac d => exact Laws.EncodeBound.cvDac d h

/-- A field of an encoded operation is a field of its number. -/
theorem bitField_encode {i : Instr} (h : i.WellFormed) (hi lo : Nat) :
    bitField (encode i) hi lo = encodeNat i / 2 ^ lo % 2 ^ (hi + 1 - lo) := by
  rw [bitField, encode, BitVec.toNat_ofNat, Nat.mod_eq_of_lt (encodeNat_lt h)]

/-- The opcode of an encoded operation (R97): every operand stands above bit 3. -/
theorem opcode_encode {i : Instr} (h : i.WellFormed) : bitField (encode i) 3 0 = opcodeOf i := by
  rw [bitField_encode h]
  cases i <;> simp only [encodeNat, opcodeOf] <;> omega

/-- The decoder's test of a one-bit field, when the field holds the bit `b`. -/
theorem beq_one_of_eq_toNat {n : Nat} {b : Bool} (h : n = b.toNat) : (n == 1) = b := by
  subst h
  cases b <;> rfl

/-- Settles O2, format by format: the opcode selects the row, the reserved fields are 0, and each operand stands in its
own field. -/
theorem decodeOfEncodeIsTheInstruction : Obligations.DecodeOfEncodeIsTheInstruction := by
  intro i hwf
  have hfield := bitField_encode hwf
  rw [decode, opcode_encode hwf]
  cases i with
  | ckEncode l x =>
      have hx := Bool.toNat_le x
      simp only [Instr.WellFormed, Instr.wellFormed, decide_eq_true_eq] at hwf
      simp only [encodeNat] at hfield
      refine unlessReserved_eq_op.mpr ⟨by rw [hfield, hfield]; omega, ?_⟩
      congr 1
      · rw [hfield]; omega
      · exact beq_one_of_eq_toNat (by rw [hfield]; omega)
  | ckDecode l x k =>
      have hx := Bool.toNat_le x
      simp only [Instr.WellFormed, Instr.wellFormed, Bool.and_eq_true, decide_eq_true_eq] at hwf
      simp only [encodeNat] at hfield
      refine unlessReserved_eq_op.mpr ⟨by rw [hfield, hfield]; omega, ?_⟩
      congr 1
      · rw [hfield]; omega
      · exact beq_one_of_eq_toNat (by rw [hfield]; omega)
      · rw [hfield]; omega
  | stConfigure | stStart | stStop => exact unlessReserved_eq_op.mpr ⟨by rw [hfield]; rfl, rfl⟩
  | stNextblk m f =>
      have hf := Bool.toNat_le f
      simp only [Instr.WellFormed, Instr.wellFormed, decide_eq_true_eq] at hwf
      simp only [encodeNat] at hfield
      refine unlessReserved_eq_op.mpr ⟨by rw [hfield, hfield]; omega, ?_⟩
      congr 1
      · rw [hfield]; omega
      · exact beq_one_of_eq_toNat (by rw [hfield]; omega)
  | cvAin raw g res =>
      simp only [Instr.WellFormed, Instr.wellFormed, Bool.and_eq_true, decide_eq_true_eq] at hwf
      simp only [encodeNat] at hfield
      refine unlessReserved_eq_op.mpr ⟨by rw [hfield]; omega, ?_⟩
      congr 1 <;> rw [hfield] <;> omega
  | cvTemp raw =>
      simp only [Instr.WellFormed, Instr.wellFormed, decide_eq_true_eq] at hwf
      simp only [encodeNat] at hfield
      refine unlessReserved_eq_op.mpr ⟨by rw [hfield]; omega, ?_⟩
      congr 1
      rw [hfield]; omega
  | cvDac d =>
      simp only [Instr.WellFormed, Instr.wellFormed, decide_eq_true_eq] at hwf
      simp only [encodeNat] at hfield
      refine unlessReserved_eq_op.mpr ⟨by rw [hfield]; omega, ?_⟩
      congr 1
      rw [hfield]; omega

/-! ### From a legal word to its operation and back -/

/-- A field of `n` bits is below `2^n`. -/
theorem bitField_lt (w : Word) (hi lo : Nat) : bitField w hi lo < 2 ^ (hi + 1 - lo) :=
  Nat.mod_lt _ (Nat.two_pow_pos _)

/-- A one-bit field is the number of the decoder's test of it. -/
theorem toNat_bitField_beq_one (w : Word) (b : Nat) : (bitField w b b == 1).toNat = bitField w b b := by
  have hbit : bitField w b b < 2 := (bitField_lt w b b).trans_eq (by simp)
  rcases (by omega : bitField w b b = 0 ∨ bitField w b b = 1) with h | h <;> rw [h] <;> rfl

theorem encode_eq_of_toNat {w : Word} {i : Instr} (h : encodeNat i = w.toNat) : encode i = w := by
  rw [encode, h, BitVec.ofNat_toNat, BitVec.setWidth_eq]

/-- What the decoder reads from a word is well formed, and its fields with the reserved zeros make up the word. -/
theorem decode_eq_op_fields {w : Word} {i : Instr} (h : decode w = .op i) :
    i.WellFormed ∧ encodeNat i = w.toNat := by
  have hw := w.isLt
  unfold decode at h
  split at h
  case h_10 => cases h
  all_goals
    rename_i hopc
    obtain ⟨hreserved, rfl⟩ := unlessReserved_eq_op.mp h
    simp only [Instr.WellFormed, Instr.wellFormed, Bool.and_eq_true, decide_eq_true_eq, encodeNat,
      toNat_bitField_beq_one, true_and]
    simp only [bitField] at hopc hreserved ⊢
    omega

/-- Settles O3, from what the decoder reads. -/
theorem legalWordIsItsEncoding : Obligations.LegalWordIsItsEncoding := by
  intro w i h
  obtain ⟨hwf, hnat⟩ := decode_eq_op_fields h
  have hword : encode i = w := encode_eq_of_toNat hnat
  exact ⟨hwf, hword, by rw [assemble, if_pos hwf, hword]⟩

/-- Settles O1: nine closed words. -/
theorem decodeReadsSpecWords : Obligations.DecodeReadsSpecWords := by
  unfold Obligations.DecodeReadsSpecWords
  decide

/-- Settles O7: the step is the issue of the word, whose operation is well formed by O3. -/
theorem stepPerformsDecodedOperation : Obligations.StepPerformsDecodedOperation := by
  intro s w rest i hc hb hw
  obtain ⟨hwf, -⟩ := legalWordIsItsEncoding w i hw
  refine ⟨hwf, ?_⟩
  rw [step_at_op hc hb, issue, hw]
  rfl

end Sys2Proof.Machine

/-! ## Reads, control registers and reset on the bus (`20_memory.md` R63 to R67, `10_state.md` R21 to R34) -/

namespace Sys2Proof.Machine

/-! ### Reads (R63, R65, R67) -/

/-- A read, permitted or refused, changes the model's own fields alone. -/
theorem hostRead_frame {n addr : Nat} {s t : State} (h : hostRead n addr s = .next t) :
    t = { s with reply := t.reply, draws := t.draws } := by
  cases ha : accessOffset s.cfg n addr with
  | none =>
      cases (hostRead_refused ha).symm.trans h
      rfl
  | some off =>
      obtain ⟨u, d, hu, hframe, -⟩ := hostRead_permitted ha
      cases hu.symm.trans h
      rw [hframe]

/-- Settles O9: a refused read has its own reply, and a permitted one is answered with data. -/
theorem readHasNoSideEffect : Obligations.ReadHasNoSideEffect := by
  intro s n addr rest hc hb
  rw [step_of_bus hc hb]
  refine ⟨fun t ht => hostRead_frame ht, fun off hoff hwidth halign hwindow hword => ?_⟩
  have ha : accessOffset (s.setBus rest).cfg n addr = some off :=
    accessOffset_some.mpr ⟨hoff, hwidth, halign, hwindow, hword⟩
  obtain ⟨t, d, ht, hframe, -⟩ := hostRead_permitted ha
  exact ⟨t, d, ht, by rw [hframe]⟩

/-- Bytes assembled little-endian, as a sum over their indices. -/
theorem leNat_eq_sum : ∀ bs : List Byte,
    leNat bs = ((List.range bs.length).map fun i => (bs.getD i 0).toNat * 256 ^ i).sum
  | [] => rfl
  | b :: bs => by
      have hshift : ((List.range bs.length).map fun i => ((b :: bs).getD (i + 1) 0).toNat * 256 ^ (i + 1)).sum =
          256 * ((List.range bs.length).map fun i => (bs.getD i 0).toNat * 256 ^ i).sum := by
        rw [← List.sum_map_mul_left]
        congr 1
        refine List.map_congr_left fun i _ => ?_
        rw [List.getD_cons_succ, Nat.pow_succ]
        ring
      rw [leNat, leNat_eq_sum bs, List.length_cons, List.range_succ_eq_map, List.map_cons, List.map_map, List.sum_cons,
        ← hshift]
      simp [Function.comp_def]

/-- A read of bytes that all hold a value draws nothing. -/
theorem windowRead_of_holds {s : State} {off : Nat} {bs : List Byte} (h : windowHolds s off bs = true) :
    windowRead s off bs.length = leNat bs := by
  rw [windowHolds_iff] at h
  unfold windowRead
  congr 1
  refine List.ext_getElem (by simp) fun i hi hi' => ?_
  simp [h i hi', hi']

/-- Settles O10. -/
theorem readAssemblesBytesLittleEndian : Obligations.ReadAssemblesBytesLittleEndian := by
  intro s off bs rest hc hb hwidth halign hbeyond hwindow hholds
  have ha : accessOffset (s.setBus rest).cfg bs.length (s.cfg.base + off) = some off :=
    accessOffset_some.mpr ⟨rfl, hwidth, halign, hwindow, by omega⟩
  have hread : windowRead (s.setBus rest) off bs.length = leNat bs := windowRead_of_holds hholds
  refine ⟨_, (step_of_bus hc hb).trans (hostRead_beyond_control ha hbeyond), ?_⟩
  rw [State.drawn_reply, State.answered_reply, hread, leNat_eq_sum]

/-! ### The control registers (R21 to R34, R49, R50) -/

/-- A register narrower than a word reads as its number. -/
theorem setWidth_eq_ofNat {w : Nat} (v : BitVec w) : v.setWidth 32 = BitVec.ofNat 32 v.toNat :=
  BitVec.eq_of_toNat_eq (by rw [BitVec.toNat_setWidth, BitVec.toNat_ofNat])

/-- A 32-bit access of a control word is permitted (R66). -/
theorem accessOffset_control {c : Config} {off : Nat} (h : off < 0x40) (halign : off % 4 = 0) :
    accessOffset c 4 (c.base + off) = some off :=
  accessOffset_some.mpr ⟨rfl, by omega, halign, by omega, fun _ => rfl⟩

/-- Settles O11, word by word. -/
theorem controlRegistersReadTheirFields : Obligations.ControlRegistersReadTheirFields := by
  intro s off v rest hc hb hrbuf hmem
  have hread (h : off < 0x40) (halign : off % 4 = 0) (hv : controlWord s off = v) :
      step s = .next { s with bus := rest, reply := .data v } := by
    subst hv
    exact (step_of_bus hc hb).trans (hostRead_control (accessOffset_control h halign) h)
  simp only [List.mem_cons, Prod.mk.injEq, List.not_mem_nil, or_false] at hmem
  rcases hmem with ⟨rfl, rfl⟩ | ⟨rfl, rfl⟩ | ⟨rfl, rfl⟩ | ⟨rfl, rfl⟩ | ⟨rfl, rfl⟩ | ⟨rfl, rfl⟩ | ⟨rfl, rfl⟩ |
    ⟨rfl, rfl⟩ | ⟨rfl, rfl⟩ | ⟨rfl, rfl⟩ | ⟨rfl, rfl⟩ | ⟨rfl, rfl⟩ | ⟨rfl, rfl⟩ | ⟨rfl, rfl⟩ | ⟨rfl, rfl⟩ | ⟨rfl, rfl⟩ <;>
    refine hread (by decide) (by decide) ?_ <;> simp only [controlWord, statusWord, setWidth_eq_ofNat]
  rw [Nat.mod_eq_of_lt (hrbuf rfl)]

/-- What a write to a control word other than OP stores: one case per writable register, and nothing anywhere else. -/
theorem writeControl_eq (s : State) (off : Nat) (v : Word) : writeControl s off v =
    { s with scfg := if off = 0x08 then BitVec.ofNat 11 v.toNat else s.scfg
             rate := if off = 0x0C then v else s.rate
             hiresSup := if off = 0x10 then decide (v.toNat % 2 = 1) else s.hiresSup
             arg0 := if off = 0x14 then v else s.arg0
             arg1 := if off = 0x18 then v else s.arg1 } := by
  have hbit : v.getLsbD 0 = decide (v.toNat % 2 = 1) := by
    rw [← BitVec.testBit_toNat, Nat.testBit_zero]
  unfold writeControl
  split
  case h_1 => rfl
  case h_2 => rfl
  case h_3 => rw [hbit]; rfl
  case h_4 => rfl
  case h_5 => rfl
  case h_6 h8 hC h10 h14 h18 => rw [if_neg h8, if_neg hC, if_neg h10, if_neg h14, if_neg h18]

/-- Settles O12. -/
theorem controlRegisterWrites : Obligations.ControlRegisterWrites := by
  intro s off v rest hc hb hpos hlt halign
  have ha : accessOffset (s.setBus rest).cfg 4 (s.cfg.base + off) = some off := accessOffset_control hlt halign
  have hwrite : windowWrite (s.setBus rest) off 4 v = writeControl (s.setBus rest) off v := if_pos hlt
  refine ⟨_, (step_of_bus hc hb).trans (hostWrite_of_ne_op ha (by omega)), ?_, rfl, ?_⟩ <;>
    rw [hwrite, writeControl_eq] <;> rfl

/-! ### Reset by the platform (R260) -/

/-- Settles O16. -/
theorem platformResetRestoresResetState : Obligations.PlatformResetRestoresResetState :=
  fun _ _ hc hb => step_of_bus hc hb

end Sys2Proof.Machine

/-! ## A host write beyond the control region (`20_memory.md` R61, R62, R65; `10_state.md` R35, R49, R50) -/

namespace Sys2Proof.Machine

/-! ### Where the regions lie (R61) -/

/-- The first offset of a region, and the first one beyond it, at its largest parameter size (R61). Reserved space lies
anywhere. -/
def regionRange : Region → Nat × Nat
  | .control => (0, 0x40)
  | .chtab => (0x40, 0x60)
  | .calram => (0x100, 0x328)
  | .fbuf => (0x400, 0x500)
  | .inbuf => (0x800, 0xC00)
  | .rawout => (0xC00, 0x1000)
  | .outval => (0x1000, 0x1400)
  | .reserved => (0, 0)

theorem regionWithin_eq_of_ne {i size : Nat} {r r' : Region} (h : regionWithin i size r = r') (hr : r' ≠ .reserved) :
    r = r' ∧ i < size := by
  unfold regionWithin at h
  split at h
  · exact ⟨h, by assumption⟩
  · exact absurd h.symm hr

theorem regionOf_range {c : Config} {off : Nat} {r : Region} (h : regionOf c off = r) (hr : r ≠ .reserved) :
    (regionRange r).1 ≤ off ∧ off < (regionRange r).2 := by
  have hwithin {lo hi size : Nat} {r' : Region} (hlo : ¬ off < lo) (hhi : off < hi) (hrange : regionRange r' = (lo, hi))
      (h : regionWithin (off - lo) size r' = r) : (regionRange r).1 ≤ off ∧ off < (regionRange r).2 := by
    obtain ⟨rfl, -⟩ := regionWithin_eq_of_ne h hr
    rw [hrange]
    exact ⟨Nat.le_of_not_lt hlo, hhi⟩
  unfold regionOf at h
  by_cases h40 : off < 0x40
  · rw [if_pos h40] at h
    exact h ▸ ⟨Nat.zero_le off, h40⟩
  rw [if_neg h40] at h
  by_cases h60 : off < 0x60
  · exact hwithin h40 h60 rfl (by rwa [if_pos h60] at h)
  rw [if_neg h60] at h
  by_cases h100 : off < 0x100
  · exact absurd (by rwa [if_pos h100, eq_comm] at h) hr
  rw [if_neg h100] at h
  by_cases h328 : off < 0x328
  · rw [if_pos h328] at h
    have hcal : Region.calram = r := by
      by_cases hdac : 0x300 ≤ off ∧ off < 0x320
      · rw [if_pos hdac] at h
        exact (regionWithin_eq_of_ne h hr).1
      · rwa [if_neg hdac] at h
    exact hcal ▸ ⟨Nat.le_of_not_lt h100, h328⟩
  rw [if_neg h328] at h
  by_cases h400 : off < 0x400
  · exact absurd (by rwa [if_pos h400, eq_comm] at h) hr
  rw [if_neg h400] at h
  by_cases h500 : off < 0x500
  · exact hwithin h400 h500 rfl (by rwa [if_pos h500] at h)
  rw [if_neg h500] at h
  by_cases h800 : off < 0x800
  · exact absurd (by rwa [if_pos h800, eq_comm] at h) hr
  rw [if_neg h800] at h
  by_cases hC00 : off < 0xC00
  · exact hwithin h800 hC00 rfl (by rwa [if_pos hC00] at h)
  rw [if_neg hC00] at h
  by_cases h1000 : off < 0x1000
  · exact hwithin hC00 h1000 rfl (by rwa [if_pos h1000] at h)
  rw [if_neg h1000] at h
  by_cases h1400 : off < 0x1400
  · exact hwithin h1000 h1400 rfl (by rwa [if_pos h1400] at h)
  exact absurd (by rwa [if_neg h1400, eq_comm] at h) hr

/-! ### A byte of a slot entry (R35, R49, R65) -/

theorem tableEntry_setIfInBounds (t : Vector SlotEntry 16) {i : Nat} (hi : i < 16) (j : Nat) (e : SlotEntry) :
    tableEntry (t.setIfInBounds i e) j = if i = j then e else tableEntry t j := by
  unfold tableEntry
  rw [Vector.getElem?_setIfInBounds]
  by_cases hij : i = j
  · rw [if_pos hij, if_pos hij, if_pos hi, Option.getD_some]
  · rw [if_neg hij, if_neg hij]

/-- A byte written to one half of a slot entry leaves the other half. -/
theorem entryByte_entryWithByte_other {hi hi' : Bool} (e : SlotEntry) (b : Byte) (h : hi' ≠ hi) :
    entryByte (entryWithByte e hi b) hi' = entryByte e hi' := by
  have hlow : (b.extractLsb' 0 3 ++ e.extractLsb' 0 8).extractLsb' 0 8 = e.extractLsb' 0 8 :=
    BitVec.extractLsb'_append_eq_right
  have hhigh : (e.extractLsb' 8 3 ++ b).extractLsb' 8 3 = e.extractLsb' 8 3 := BitVec.extractLsb'_append_eq_left
  cases hi
  · obtain rfl : hi' = true := by simpa using h
    exact congrArg (BitVec.setWidth 8) hhigh
  · obtain rfl : hi' = false := by simpa using h
    exact hlow

/-- A byte written to a half of a slot entry stands there, without the reserved bits of the upper half. -/
theorem entryByte_entryWithByte_same (e : SlotEntry) (hi : Bool) (b : Byte) :
    entryByte (entryWithByte e hi b) hi = if hi = true then BitVec.ofNat 8 (b.toNat % 8) else b := by
  cases hi with
  | false =>
      have hlow : (e.extractLsb' 8 3 ++ b).extractLsb' 0 8 = b := BitVec.extractLsb'_append_eq_right
      exact hlow
  | true =>
      have hhigh : (b.extractLsb' 0 3 ++ e.extractLsb' 0 8).extractLsb' 8 3 = b.extractLsb' 0 3 :=
        BitVec.extractLsb'_append_eq_left
      refine (congrArg (BitVec.setWidth 8) hhigh).trans (BitVec.eq_of_toNat_eq ?_)
      simp

/-! ### One byte written by the host -/

/-- What a host write of the byte `b` leaves at `off` beyond the control region. -/
def byteAfterWrite (s : State) (off : Nat) (b : Byte) : Option Byte :=
  match regionOf s.cfg off with
  | .fbuf | .inbuf | .calram => some b
  | .chtab => some (if off % 2 = 1 then BitVec.ofNat 8 (b.toNat % 8) else b)
  | _ => windowByte s off

/-- A byte beyond the control region shows its own half of a slot entry, its own calibration byte or its own memory byte,
as its region says. -/
theorem windowByte_congr_of_region {s t : State} {off : Nat} (hoff : 0x40 ≤ off) (hcfg : t.cfg = s.cfg)
    (hch : regionOf s.cfg off = .chtab → entryByte (tableEntry t.chtab ((off - 0x40) / 2)) (off % 2 == 1) =
      entryByte (tableEntry s.chtab ((off - 0x40) / 2)) (off % 2 == 1))
    (hcal : regionOf s.cfg off = .calram → calByte t off = calByte s off)
    (hmem : memoryGet t.mem off = memoryGet s.mem off) : windowByte t off = windowByte s off := by
  unfold windowByte
  rw [hcfg]
  cases hr : regionOf s.cfg off with
  | control => exact absurd hr (regionOf_ne_control hoff)
  | chtab => exact congrArg some (hch hr)
  | calram => exact congrArg some (hcal hr)
  | reserved => rfl
  | fbuf | inbuf | rawout | outval => exact hmem

section
variable {s : State} {off : Nat} (b : Byte)

theorem putByte_chtab (hr : regionOf s.cfg off = .chtab) : (putByte s off b).chtab =
    s.chtab.setIfInBounds ((off - 0x40) / 2)
      (entryWithByte (tableEntry s.chtab ((off - 0x40) / 2)) (off % 2 == 1) b) := by
  rw [putByte, hr]

theorem putByte_calram (hr : regionOf s.cfg off = .calram) :
    (putByte s off b).calram = s.calram.setIfInBounds (off - 0x100) b := by
  rw [putByte, hr]

/-- The half of a slot entry at `off'` after a write of the one at `off`. -/
theorem entryByte_putByte (hr : regionOf s.cfg off = .chtab) {off' : Nat} (hoff' : 0x40 ≤ off') :
    entryByte (tableEntry (putByte s off b).chtab ((off' - 0x40) / 2)) (off' % 2 == 1) =
      if off' = off then (if off % 2 = 1 then BitVec.ofNat 8 (b.toNat % 8) else b)
      else entryByte (tableEntry s.chtab ((off' - 0x40) / 2)) (off' % 2 == 1) := by
  obtain ⟨hlo, hhi⟩ := regionOf_range hr (by decide)
  simp only [regionRange] at hlo hhi
  rw [putByte_chtab b hr, tableEntry_setIfInBounds _ (by omega)]
  by_cases hsame : off' = off
  · subst hsame
    rw [if_pos rfl, if_pos rfl, entryByte_entryWithByte_same]
    simp only [beq_iff_eq]
  · rw [if_neg hsame]
    by_cases hentry : (off - 0x40) / 2 = (off' - 0x40) / 2
    · have hhalf : (off' % 2 == 1) ≠ (off % 2 == 1) := by
        rw [ne_eq, Bool.eq_iff_iff, beq_iff_eq, beq_iff_eq]
        omega
      rw [if_pos hentry, entryByte_entryWithByte_other _ _ hhalf, hentry]
    · rw [if_neg hentry]

/-- The calibration byte at `off'` after a write of the one at `off`. -/
theorem calByte_putByte (hr : regionOf s.cfg off = .calram) {off' : Nat} (hoff' : 0x100 ≤ off') :
    calByte (putByte s off b) off' = if off' = off then b else calByte s off' := by
  obtain ⟨hlo, hhi⟩ := regionOf_range hr (by decide)
  simp only [regionRange] at hlo hhi
  have hin : off - 0x100 < calramSize := by unfold calramSize; omega
  rw [calByte, putByte_calram b hr, Vector.getElem?_setIfInBounds]
  by_cases hsame : off' = off
  · rw [if_pos (by omega), if_pos hin, if_pos hsame, Option.getD_some]
  · rw [if_neg (by omega), if_neg hsame, calByte]

/-- A host write of one byte leaves every other byte of the window. -/
theorem windowByte_putByte_other {off' : Nat} (hoff' : 0x40 ≤ off') (hne : off' ≠ off) :
    windowByte (putByte s off b) off' = windowByte s off' := by
  have hcfg : (putByte s off b).cfg = s.cfg := (putByte_cfg_code s off b).1
  have hstore : windowByte (s.store off [b]) off' = windowByte s off' :=
    windowByte_store_other hoff' (by rw [List.length_singleton]; omega)
  cases hr : regionOf s.cfg off with
  | chtab =>
      refine windowByte_congr_of_region hoff' hcfg (fun _ => ?_) (fun _ => ?_) ?_
      · rw [entryByte_putByte b hr hoff', if_neg hne]
      · rw [putByte, hr]; rfl
      · rw [putByte, hr]
  | calram =>
      refine windowByte_congr_of_region hoff' hcfg (fun _ => ?_) (fun hr' => ?_) ?_
      · rw [putByte, hr]
      · rw [calByte_putByte b hr (regionOf_range hr' (by decide)).1, if_neg hne]
      · rw [putByte, hr]
  | fbuf | inbuf => rwa [putByte, hr]
  | control | rawout | outval | reserved => rw [putByte, hr]

/-- A host write of one byte stores it as its region says. -/
theorem windowByte_putByte_same (hoff : 0x40 ≤ off) :
    windowByte (putByte s off b) off = byteAfterWrite s off b := by
  have hcfg : (putByte s off b).cfg = s.cfg := (putByte_cfg_code s off b).1
  have hstored : memoryGet (s.store off [b]).mem off = some b := by
    rw [State.store_mem, memoryGet_store, if_pos (by simp)]
    simp
  unfold byteAfterWrite
  cases hr : regionOf s.cfg off with
  | chtab =>
      rw [windowByte, hcfg, hr]
      exact congrArg some ((entryByte_putByte b hr hoff).trans (if_pos rfl))
  | calram =>
      rw [windowByte, hcfg, hr]
      exact congrArg some ((calByte_putByte b hr (regionOf_range hr (by decide)).1).trans (if_pos rfl))
  | fbuf | inbuf =>
      rw [windowByte, hcfg, hr, putByte, hr]
      exact hstored
  | control => exact absurd hr (regionOf_ne_control hoff)
  | rawout | outval | reserved => rw [putByte, hr]

end

/-! ### The bytes of an access -/

/-- A host write of bytes leaves the rest of the window. -/
theorem windowByte_putBytes_other : ∀ (bs : List Byte) (s : State) (off : Nat) {off' : Nat}, 0x40 ≤ off' →
    (off' < off ∨ off + bs.length ≤ off') → windowByte (putBytes s off bs) off' = windowByte s off'
  | [], _, _, _, _, _ => rfl
  | b :: bs, s, off, off', hoff', hout => by
      rw [List.length_cons] at hout
      rw [putBytes, windowByte_putBytes_other bs _ _ hoff' (by omega), windowByte_putByte_other b hoff' (by omega)]

/-- What a write leaves at an offset depends on the layout, and in reserved and read-only bytes on what stood there. -/
theorem byteAfterWrite_congr {s t : State} {off : Nat} (hcfg : t.cfg = s.cfg) (hw : windowByte t off = windowByte s off)
    (b : Byte) : byteAfterWrite t off b = byteAfterWrite s off b := by
  unfold byteAfterWrite
  rw [hcfg, hw]

/-- A host write of bytes stores byte `i` at offset `i`. -/
theorem windowByte_putBytes_same : ∀ (bs : List Byte) (s : State) (off : Nat), 0x40 ≤ off → ∀ (i : Nat) (b : Byte),
    bs[i]? = some b → windowByte (putBytes s off bs) (off + i) = byteAfterWrite s (off + i) b
  | [], _, _, _, _, _, h => by simp at h
  | b :: bs, s, off, hoff, 0, b', h => by
      obtain rfl : b = b' := by simpa using h
      rw [putBytes, windowByte_putBytes_other bs _ _ (by omega) (by omega)]
      exact windowByte_putByte_same b hoff
  | b :: bs, s, off, hoff, i + 1, b', h => by
      rw [List.getElem?_cons_succ] at h
      rw [putBytes, show off + (i + 1) = off + 1 + i by omega,
        windowByte_putBytes_same bs _ _ (by omega) i b' h]
      exact byteAfterWrite_congr (putByte_cfg_code s off b).1 (windowByte_putByte_other b (by omega) (by omega)) b'

/-- `t` is `s` but for CHTAB, CALRAM and the byte windows: what a host write beyond the control region can change. -/
def EqualButWindows (s t : State) : Prop := t = { s with chtab := t.chtab, calram := t.calram, mem := t.mem }

theorem EqualButWindows.trans {s t u : State} (h : EqualButWindows s t) (h' : EqualButWindows t u) :
    EqualButWindows s u := by
  unfold EqualButWindows at *
  rw [h', h]

theorem putByte_equalButWindows (s : State) (off : Nat) (b : Byte) : EqualButWindows s (putByte s off b) := by
  unfold putByte
  split <;> rfl

theorem putBytes_equalButWindows : ∀ (bs : List Byte) (s : State) (off : Nat), EqualButWindows s (putBytes s off bs)
  | [], _, _ => rfl
  | b :: bs, s, off => (putByte_equalButWindows s off b).trans (putBytes_equalButWindows bs _ _)

/-- Settles O13: an access beyond the control region is a write of its bytes one after the other. -/
theorem hostWriteStoresItsBytes : Obligations.HostWriteStoresItsBytes := by
  intro s n off v rest hc hb hwidth halign hbeyond hwindow
  have ha : accessOffset (s.setBus rest).cfg n (s.cfg.base + off) = some off :=
    accessOffset_some.mpr ⟨rfl, hwidth, halign, hwindow, by omega⟩
  have hwrite : windowWrite (s.setBus rest) off n v = putBytes (s.setBus rest) off (leBytes n v.toNat) :=
    if_neg (by omega)
  have hstep := (step_of_bus hc hb).trans (hostWrite_of_ne_op ha (by omega))
  rw [hwrite] at hstep
  refine ⟨_, hstep, ?_, fun off' hoff' hout => ?_, fun i hi => ?_⟩
  · have hframe := putBytes_equalButWindows (leBytes n v.toNat) (s.setBus rest) off
    exact congrArg (State.answered · .ack) hframe
  · have hout' : off' < off ∨ off + n ≤ off' := hout (off, n) (by simp)
    exact windowByte_putBytes_other (leBytes n v.toNat) (s.setBus rest) off hoff' (by rwa [leBytes_length])
  · have hbyte : (leBytes n v.toNat)[i]? = some (BitVec.ofNat 8 (v.toNat / 256 ^ i)) := by
      rw [leBytes_getElem?, if_pos hi]
    exact windowByte_putBytes_same _ (s.setBus rest) off hbeyond i _ hbyte

end Sys2Proof.Machine

/-! ## What an operation can do, and what every operation keeps (`00_scope.md` R12, `20_memory.md` R73) -/

namespace Sys2Proof.Machine

/-! ### An operation raises a status, or completes -/

/-- The statuses that an operation raises (R12, R230). -/
def raisedCodes : List Code := [.lengthMismatch, .stateError, .configError, .badOperand, .overflow]

/-- What ST.START leaves when it completes (R185). -/
def startedState (s : State) : State := ((s.emptied.setTrunc false).setStream .streaming).setCode .ok

/-- What ST.STOP leaves when it completes (R186). -/
def stoppedState (s : State) : State := (s.emptied.setStream .configured).setCode .ok

/-- What a read on the local path leaves when it completes (R188). -/
def LocalRead (m : Nat) (s t : State) : Prop :=
  m ≤ s.pprR.toNat * s.pktR.toNat ∧
  ((usablePackets s m = [] ∧ t = pendingState (m / s.pktR.toNat) (afterTrunc s m)) ∨
   (usablePackets s m ≠ [] ∧
    t = emittedState (usablePackets s m) (m / s.pktR.toNat - (usablePackets s m).length) (afterTrunc s m)))

/-- RBUF holds `b`, and the read is counted as a draw. -/
def afterAppend (s : State) (b : List Byte) : State := (s.setRbuf b).drawn 1

/-- What a read on the network path leaves when it completes (R189). -/
def NetRead (m : Nat) (f : Bool) (s t : State) : Prop :=
  s.rbuf.length + m ≤ s.cfg.rbufCap ∧
  ((netPackets s.pprR.toNat s.pktR.toNat (s.rbuf.length + m) f = none ∧
    t = pendingState 0 (afterAppend s (appended s m))) ∨
   ∃ n, netPackets s.pprR.toNat s.pktR.toNat (s.rbuf.length + m) f = some n ∧
    t = emittedState (packets s.pktR.toNat n (appended s m)) 0
      (afterAppend s ((appended s m).drop (n * s.pktR.toNat))))

/-- What an operation leaves when it completes, and when it can. -/
def Completes (s t : State) : Instr → Prop
  | .ckEncode l x => LegalFrame s.cfg l x ∧ t = encodedState s l x
  | .ckDecode l x _ => ∃ i c, c ∈ [Code.ok, .checksumError, .echoMismatch] ∧ t = (judgedState s l x i).setCode c
  | .stConfigure => s.stream ≠ .streaming ∧ channelsLegal s = true ∧ t = configuredState s
  | .stStart => s.stream = .configured ∧ t = startedState s
  | .stStop => s.stream = .streaming ∧ t = stoppedState s
  | .stNextblk m f => s.stream = .streaming ∧ m ≤ s.cfg.inbufSize ∧
      ((s.atr = true ∧ NetRead m f s t) ∨ (s.atr = false ∧ LocalRead m s t))
  | .cvAin .. | .cvTemp .. | .cvDac .. => ∃ v w, t = (s.setRes01 v w).setCode .ok

/-- How an operation ends: with a raised status and no other change, or complete. -/
def RaisesOrCompletes (s : State) (i : Instr) (r : Result) : Prop :=
  ∃ t, r = .next t ∧ ((∃ c ∈ raisedCodes, t = s.setCode c) ∨ Completes s t i)

theorem raisesOrCompletes_raise {s : State} {i : Instr} {r : Result} {c : Code} (h : r = .next (s.setCode c))
    (hc : c ∈ raisedCodes) : RaisesOrCompletes s i r :=
  ⟨_, h, .inl ⟨c, hc, rfl⟩⟩

theorem execCkEncode_ends (l : Nat) (x : Bool) (s : State) :
    RaisesOrCompletes s (.ckEncode l x) (execCkEncode l x s) := by
  by_cases hl : LegalFrame s.cfg l x
  · exact ⟨_, execCkEncode_legal hl, .inr ⟨hl, rfl⟩⟩
  · rcases execCkEncode_cases l x s with ⟨_, he⟩ | ⟨hlegal, _⟩
    · exact raisesOrCompletes_raise he (by decide)
    · exact absurd (frameLenLegal_iff.mp hlegal) hl

theorem execCkDecode_ends (l : Nat) (x : Bool) (k : Nat) (s : State) :
    RaisesOrCompletes s (.ckDecode l x k) (execCkDecode l x k s) := by
  rcases execCkDecode_cases l x k s with ⟨_, he⟩ | ⟨_, _, _, ⟨_, he⟩ | ⟨_, ⟨_, he⟩ | ⟨_, ⟨i, _, he⟩ | ⟨_, he⟩⟩⟩⟩
  · exact raisesOrCompletes_raise he (by decide)
  · exact raisesOrCompletes_raise he (by decide)
  · exact ⟨_, he, .inr ⟨0, _, by decide, rfl⟩⟩
  · exact ⟨_, he, .inr ⟨i, _, by decide, rfl⟩⟩
  · exact ⟨_, he, .inr ⟨0, _, by decide, rfl⟩⟩

theorem nextblkLocal_ends (m : Nat) (s : State) :
    (s.pprR.toNat * s.pktR.toNat < m ∧ nextblkLocal m s = .next (s.setCode .badOperand)) ∨
    ∃ t, nextblkLocal m s = .next t ∧ LocalRead m s t := by
  rcases nextblkLocal_cases m s with hlong | ⟨hm, hnone, he⟩ | ⟨hm, hsome, he⟩
  · exact .inl hlong
  · exact .inr ⟨_, he, hm, .inl ⟨hnone, rfl⟩⟩
  · exact .inr ⟨_, he, hm, .inr ⟨hsome, rfl⟩⟩

theorem nextblkNet_ends (m : Nat) (f : Bool) (s : State) :
    (s.cfg.rbufCap < s.rbuf.length + m ∧ nextblkNet m f s = .next (s.setCode .overflow)) ∨
    ∃ t, nextblkNet m f s = .next t ∧ NetRead m f s t := by
  rcases nextblkNet_cases m f s with hover | ⟨hm, hnone, he⟩ | ⟨hm, n, hn, he⟩
  · exact .inl hover
  · exact .inr ⟨_, he, hm, .inl ⟨hnone, rfl⟩⟩
  · exact .inr ⟨_, he, hm, .inr ⟨n, hn, rfl⟩⟩

theorem execStNextblk_ends (m : Nat) (f : Bool) (s : State) :
    RaisesOrCompletes s (.stNextblk m f) (execStNextblk m f s) := by
  rcases execStNextblk_cases m f s with ⟨_, he⟩ | ⟨_, _, he⟩ | ⟨hs, hm, hatr, he⟩ | ⟨hs, hm, hatr, he⟩
  · exact raisesOrCompletes_raise he (by decide)
  · exact raisesOrCompletes_raise he (by decide)
  · rcases nextblkNet_ends m f s with ⟨_, hover⟩ | ⟨t, ht, hread⟩
    · exact raisesOrCompletes_raise (he.trans hover) (by decide)
    · exact ⟨t, he.trans ht, .inr ⟨hs, hm, .inl ⟨hatr, hread⟩⟩⟩
  · rcases nextblkLocal_ends m s with ⟨_, hlong⟩ | ⟨t, ht, hread⟩
    · exact raisesOrCompletes_raise (he.trans hlong) (by decide)
    · exact ⟨t, he.trans ht, .inr ⟨hs, hm, .inr ⟨hatr, hread⟩⟩⟩

/-- Every operation answers a next state, in one of the two ways. -/
theorem exec_ends (i : Instr) (s : State) : RaisesOrCompletes s i (exec i s) := by
  cases i with
  | ckEncode l x => exact execCkEncode_ends l x s
  | ckDecode l x k => exact execCkDecode_ends l x k s
  | stConfigure =>
      rcases execStConfigure_cases s with ⟨_, he⟩ | ⟨_, _, he⟩ | ⟨hs, hlegal, he⟩
      · exact raisesOrCompletes_raise he (by decide)
      · exact raisesOrCompletes_raise he (by decide)
      · exact ⟨_, he, .inr ⟨hs, hlegal, rfl⟩⟩
  | stStart =>
      rcases execStStart_cases s with ⟨_, he⟩ | ⟨hs, he⟩
      · exact raisesOrCompletes_raise he (by decide)
      · exact ⟨_, he, .inr ⟨hs, rfl⟩⟩
  | stNextblk m f => exact execStNextblk_ends m f s
  | stStop =>
      rcases execStStop_cases s with ⟨_, he⟩ | ⟨hs, he⟩
      · exact raisesOrCompletes_raise he (by decide)
      · exact ⟨_, he, .inr ⟨hs, rfl⟩⟩
  | cvAin raw g res => exact ⟨_, execCvAin_eq raw g res s, .inr ⟨_, _, rfl⟩⟩
  | cvTemp raw => exact ⟨_, execCvTemp_eq raw s, .inr ⟨_, _, rfl⟩⟩
  | cvDac d =>
      rcases execCvDac_cases d s with ⟨_, he⟩ | ⟨_, he⟩
      · exact raisesOrCompletes_raise he (by decide)
      · exact ⟨_, he, .inr ⟨_, _, rfl⟩⟩

theorem exec_raises_or_completes {i : Instr} {s t : State} (h : exec i s = .next t) :
    (∃ c ∈ raisedCodes, t = s.setCode c) ∨ Completes s t i := by
  obtain ⟨u, hu, hends⟩ := exec_ends i s
  cases hu.symm.trans h
  exact hends

/-! ### Statuses (R12, R26, R231) -/

/-- A read completes with OK or PENDING. -/
theorem LocalRead.code {m : Nat} {s t : State} (h : LocalRead m s t) : t.code = .ok ∨ t.code = .pending := by
  obtain ⟨-, ⟨-, rfl⟩ | ⟨-, rfl⟩⟩ := h
  · exact .inr (pendingState_code _ _)
  · exact .inl (emittedState_code _ _ _)

theorem NetRead.code {m : Nat} {f : Bool} {s t : State} (h : NetRead m f s t) : t.code = .ok ∨ t.code = .pending := by
  obtain ⟨-, ⟨-, rfl⟩ | ⟨n, -, rfl⟩⟩ := h
  · exact .inr (pendingState_code _ _)
  · exact .inl (emittedState_code _ _ _)

/-- An operation that completes ends with one of the statuses that are not raised. -/
theorem Completes.code {s t : State} {i : Instr} (h : Completes s t i) :
    t.code ∈ [Code.ok, .pending, .checksumError, .echoMismatch] := by
  have hread (h : t.code = .ok ∨ t.code = .pending) : t.code ∈ [Code.ok, .pending, .checksumError, .echoMismatch] := by
    rcases h with h | h <;> rw [h] <;> decide
  cases i with
  | ckEncode l x =>
      obtain ⟨-, rfl⟩ := h
      exact List.mem_cons_self
  | ckDecode l x k =>
      obtain ⟨i, c, hc, rfl⟩ := h
      rw [State.setCode_code]
      revert hc
      cases c <;> decide
  | stConfigure =>
      obtain ⟨-, -, rfl⟩ := h
      exact List.mem_cons_self
  | stStart | stStop =>
      obtain ⟨-, rfl⟩ := h
      exact List.mem_cons_self
  | stNextblk m f =>
      obtain ⟨-, -, ⟨-, h⟩ | ⟨-, h⟩⟩ := h
      · exact hread h.code
      · exact hread h.code
  | cvAin | cvTemp | cvDac =>
      obtain ⟨_, _, rfl⟩ := h
      exact List.mem_cons_self

/-- Settles O55: an operation that completes ends with none of these statuses. -/
theorem raisedStatusChangesNothingElse : Obligations.RaisedStatusChangesNothingElse := by
  intro i s t h hcode
  rcases exec_raises_or_completes h with ⟨c, hc, rfl⟩ | hdone
  · refine ⟨rfl, ?_⟩
    rintro rfl
    exact absurd hc (by decide)
  · have hdone := hdone.code
    exfalso
    revert hcode hdone
    cases t.code <;> decide

theorem encodedState_trunc (s : State) (l : Nat) (x : Bool) : (encodedState s l x).trunc = s.trunc := by
  rw [encodedState, State.setCode_trunc, State.drawn_trunc, State.setRes0_trunc, State.putFbuf_eq, State.store_trunc,
    afterCk16_trunc]

theorem configuredState_trunc (s : State) : (configuredState s).trunc = false := by
  rw [configuredState, State.setCode_trunc, State.setStream_trunc, State.setTrunc_trunc]

theorem startedState_trunc (s : State) : (startedState s).trunc = false := by
  rw [startedState, State.setCode_trunc, State.setStream_trunc, State.setTrunc_trunc]

theorem stoppedState_trunc (s : State) : (stoppedState s).trunc = s.trunc := by
  rw [stoppedState, State.setCode_trunc, State.setStream_trunc, State.emptied_trunc]

/-- What a completing operation does to TRUNC: START and CONFIGURE clear it, a local read of a partial packet sets it,
and nothing else touches it (R26). -/
theorem Completes.trunc {s t : State} {i : Instr} (h : Completes s t i) :
    (t.trunc = false ∧ t.code = .ok ∧ (i = .stStart ∨ i = .stConfigure)) ∨ t.trunc = s.trunc ∨
    (t.trunc = true ∧ ∃ m f, i = .stNextblk m f ∧ s.atr = false ∧ m % s.pktR.toNat ≠ 0) := by
  cases i with
  | ckEncode l x =>
      obtain ⟨-, rfl⟩ := h
      exact .inr (.inl (encodedState_trunc s l x))
  | ckDecode l x k =>
      obtain ⟨i, c, -, rfl⟩ := h
      exact .inr (.inl (by rw [State.setCode_trunc, judgedState_trunc]))
  | stConfigure =>
      obtain ⟨-, -, rfl⟩ := h
      exact .inl ⟨configuredState_trunc s, State.setCode_code _ _, .inr rfl⟩
  | stStart =>
      obtain ⟨-, rfl⟩ := h
      exact .inl ⟨startedState_trunc s, State.setCode_code _ _, .inl rfl⟩
  | stStop =>
      obtain ⟨-, rfl⟩ := h
      exact .inr (.inl (stoppedState_trunc s))
  | stNextblk m f =>
      obtain ⟨-, -, ⟨-, -, hread⟩ | ⟨hatr, -, hread⟩⟩ := h
      · refine .inr (.inl ?_)
        rcases hread with ⟨-, rfl⟩ | ⟨n, -, rfl⟩
        · exact pendingState_trunc _ _
        · exact emittedState_trunc _ _ _
      · have htrunc : t.trunc = (afterTrunc s m).trunc := by
          rcases hread with ⟨-, rfl⟩ | ⟨-, rfl⟩
          · exact pendingState_trunc _ _
          · exact emittedState_trunc _ _ _
        rw [htrunc, afterTrunc_trunc]
        by_cases hpartial : m % s.pktR.toNat = 0
        · exact .inr (.inl (by simp [hpartial]))
        · exact .inr (.inr ⟨by simp [hpartial], m, f, rfl, hatr, hpartial⟩)
  | cvAin | cvTemp | cvDac =>
      obtain ⟨_, _, rfl⟩ := h
      exact .inr (.inl rfl)

/-- Settles O56: a raised status keeps TRUNC. -/
theorem truncIsSticky : Obligations.TruncIsSticky := by
  intro i s t h
  rcases exec_raises_or_completes h with ⟨c, -, rfl⟩ | hdone
  · rw [State.setCode_trunc]
    exact ⟨fun hclear hset => absurd (hclear.symm.trans hset) (by decide),
      fun hset hclear => absurd (hset.symm.trans hclear) (by decide)⟩
  · rcases hdone.trunc with ⟨hfalse, hok, hi⟩ | hsame | ⟨htrue, hread⟩
    · exact ⟨fun _ hset => absurd (hfalse.symm.trans hset) (by decide), fun _ _ => ⟨hi, hok⟩⟩
    · rw [hsame]
      exact ⟨fun hclear hset => absurd (hclear.symm.trans hset) (by decide),
        fun hset hclear => absurd (hset.symm.trans hclear) (by decide)⟩
    · exact ⟨fun _ _ => hread, fun _ hclear => absurd (htrue.symm.trans hclear) (by decide)⟩

/-! ### What every operation keeps (R21, R39, R69, R73) -/

/-- `t` has the configuration, the registers that the host writes, CHTAB, CALRAM and the bus of `s`. -/
def KeepsHostSide (s t : State) : Prop :=
  t.cfg = s.cfg ∧ t.op = s.op ∧ t.scfg = s.scfg ∧ t.rate = s.rate ∧ t.hiresSup = s.hiresSup ∧ t.arg0 = s.arg0 ∧
  t.arg1 = s.arg1 ∧ t.chtab = s.chtab ∧ t.calram = s.calram ∧ t.bus = s.bus ∧ t.reply = s.reply

/-- The offsets at which an operation may store: the checksums of a frame, and from RAWOUT on (R43, R44, R104, R105). -/
def OperationStores (off : Nat) : Prop := off = 0x400 ∨ (0x404 ≤ off ∧ off < 0x406) ∨ 0xC00 ≤ off

/-- Memory reads the same wherever no operation stores. -/
def KeepsOperandBytes (s t : State) : Prop :=
  ∀ off, ¬ OperationStores off → memoryGet t.mem off = memoryGet s.mem off

theorem KeepsOperandBytes.of_mem_eq {s t : State} (h : t.mem = s.mem) : KeepsOperandBytes s t :=
  fun off _ => by rw [h]

/-- CK.ENCODE stores in bytes 0, 4 and 5 of FBUF. -/
theorem memoryGet_encodedState_other (s : State) (l : Nat) (x : Bool) {off : Nat} (h0 : off ≠ 0x400)
    (h45 : x = true → off < 0x404 ∨ 0x406 ≤ off) : memoryGet (encodedState s l x).mem off = memoryGet s.mem off := by
  have hmem : (encodedState s l x).mem = memoryStore (afterCk16 s l x).mem fbufBase
      [BitVec.ofNat 8 (ck8 (afterCk16 s l x) (s.draws + 1) l)] := rfl
  rw [hmem, memoryGet_store, if_neg (by rw [List.length_singleton, fbufBase]; omega)]
  cases x with
  | false => rfl
  | true =>
      have hck16 : (afterCk16 s l true).mem = memoryStore s.mem (fbufBase + 4) (leBytes 2 (ck16 s s.draws l)) := rfl
      have := h45 rfl
      rw [hck16, memoryGet_store, if_neg (by rw [leBytes_length, fbufBase]; omega)]

/-- A block stores in RAWOUT and OUTVAL. -/
theorem memoryGet_blockMemory_other (c : Config) (m : Memory) (ps : List (List Byte)) (vs : List F64) {off : Nat}
    (h : off < 0xC00) : memoryGet (blockMemory c m ps vs) off = memoryGet m off := by
  rw [memoryGet_blockMemory, if_neg (by omega), if_neg (by omega)]

theorem KeepsHostSide.trans {s t u : State} (h : KeepsHostSide s t) (h' : KeepsHostSide t u) : KeepsHostSide s u := by
  obtain ⟨hcfg, hop, hscfg, hrate, hhires, harg0, harg1, hchtab, hcalram, hbus, hreply⟩ := h
  obtain ⟨hcfg', hop', hscfg', hrate', hhires', harg0', harg1', hchtab', hcalram', hbus', hreply'⟩ := h'
  exact ⟨hcfg'.trans hcfg, hop'.trans hop, hscfg'.trans hscfg, hrate'.trans hrate, hhires'.trans hhires,
    harg0'.trans harg0, harg1'.trans harg1, hchtab'.trans hchtab, hcalram'.trans hcalram, hbus'.trans hbus,
    hreply'.trans hreply⟩

/-- What every operation keeps. -/
def KeepsOperands (s t : State) : Prop := KeepsHostSide s t ∧ KeepsOperandBytes s t

theorem KeepsOperands.trans {s t u : State} (h : KeepsOperands s t) (h' : KeepsOperands t u) : KeepsOperands s u := by
  obtain ⟨hhost, hmem⟩ := h
  obtain ⟨hhost', hmem'⟩ := h'
  exact ⟨hhost.trans hhost', fun off hoff => (hmem' off hoff).trans (hmem off hoff)⟩

theorem afterCk16_keepsHostSide (s : State) (l : Nat) (x : Bool) : KeepsHostSide s (afterCk16 s l x) := by
  simp [KeepsHostSide]

theorem encodedState_keeps (s : State) (l : Nat) (x : Bool) : KeepsOperands s (encodedState s l x) := by
  have hck8 (u : State) (b : Byte) (v : Word) : KeepsHostSide u ((((u.putFbuf 0 b).setRes0 v).drawn 2).setCode .ok) :=
    ⟨rfl, rfl, rfl, rfl, rfl, rfl, rfl, rfl, rfl, rfl, rfl⟩
  refine ⟨(afterCk16_keepsHostSide s l x).trans (hck8 _ _ _), fun off hoff => ?_⟩
  unfold OperationStores at hoff
  exact memoryGet_encodedState_other s l x (by omega) (fun _ => by omega)

theorem judgedState_keeps (s : State) (l : Nat) (x : Bool) (i : Nat) : KeepsOperands s (judgedState s l x i) :=
  ⟨by simp [KeepsHostSide], .of_mem_eq (judgedState_mem s l x i)⟩

theorem setCode_keeps (s : State) (c : Code) : KeepsOperands s (s.setCode c) :=
  ⟨⟨rfl, rfl, rfl, rfl, rfl, rfl, rfl, rfl, rfl, rfl, rfl⟩, .of_mem_eq rfl⟩

theorem pendingState_keeps (d : Nat) (s : State) : KeepsOperands s (pendingState d s) :=
  ⟨by simp [KeepsHostSide], .of_mem_eq (pendingState_mem d s)⟩

theorem emittedState_keeps (ps : List (List Byte)) (d : Nat) (s : State) : KeepsOperands s (emittedState ps d s) := by
  refine ⟨by simp [KeepsHostSide], fun off hoff => ?_⟩
  unfold OperationStores at hoff
  rw [emittedState_mem, memoryGet_blockMemory_other _ _ _ _ (by omega)]

theorem afterTrunc_keeps (s : State) (m : Nat) : KeepsOperands s (afterTrunc s m) :=
  ⟨by simp [KeepsHostSide], .of_mem_eq (afterTrunc_mem s m)⟩

theorem afterAppend_keeps (s : State) (b : List Byte) : KeepsOperands s (afterAppend s b) :=
  ⟨⟨rfl, rfl, rfl, rfl, rfl, rfl, rfl, rfl, rfl, rfl, rfl⟩, .of_mem_eq rfl⟩

theorem LocalRead.keeps {m : Nat} {s t : State} (h : LocalRead m s t) : KeepsOperands s t := by
  obtain ⟨-, ⟨-, rfl⟩ | ⟨-, rfl⟩⟩ := h
  · exact (afterTrunc_keeps s m).trans (pendingState_keeps _ _)
  · exact (afterTrunc_keeps s m).trans (emittedState_keeps _ _ _)

theorem NetRead.keeps {m : Nat} {f : Bool} {s t : State} (h : NetRead m f s t) : KeepsOperands s t := by
  obtain ⟨-, ⟨-, rfl⟩ | ⟨n, -, rfl⟩⟩ := h
  · exact (afterAppend_keeps s _).trans (pendingState_keeps _ _)
  · exact (afterAppend_keeps s _).trans (emittedState_keeps _ _ _)

/-- The stream operations write the latch, the leftover and STATUS (R181, R185, R186). -/
theorem emptied_keeps (s : State) : KeepsOperands s s.emptied :=
  ⟨⟨rfl, rfl, rfl, rfl, rfl, rfl, rfl, rfl, rfl, rfl, rfl⟩, .of_mem_eq rfl⟩

theorem latched_keeps (s : State) : KeepsOperands s s.latched :=
  ⟨⟨rfl, rfl, rfl, rfl, rfl, rfl, rfl, rfl, rfl, rfl, rfl⟩, .of_mem_eq rfl⟩

theorem setStream_keeps (s : State) (st : StreamState) : KeepsOperands s (s.setStream st) :=
  ⟨⟨rfl, rfl, rfl, rfl, rfl, rfl, rfl, rfl, rfl, rfl, rfl⟩, .of_mem_eq rfl⟩

theorem setTrunc_keeps (s : State) (b : Bool) : KeepsOperands s (s.setTrunc b) :=
  ⟨⟨rfl, rfl, rfl, rfl, rfl, rfl, rfl, rfl, rfl, rfl, rfl⟩, .of_mem_eq rfl⟩

theorem startedState_keeps (s : State) : KeepsOperands s (startedState s) :=
  (emptied_keeps s).trans ((setTrunc_keeps _ _).trans ((setStream_keeps _ _).trans (setCode_keeps _ _)))

theorem stoppedState_keeps (s : State) : KeepsOperands s (stoppedState s) :=
  (emptied_keeps s).trans ((setStream_keeps _ _).trans (setCode_keeps _ _))

theorem configuredState_keeps (s : State) : KeepsOperands s (configuredState s) :=
  (latched_keeps s).trans ((emptied_keeps _).trans
    ((setTrunc_keeps _ _).trans ((setStream_keeps _ _).trans (setCode_keeps _ _))))

theorem Completes.keeps {s t : State} {i : Instr} (h : Completes s t i) : KeepsOperands s t := by
  cases i with
  | ckEncode l x =>
      obtain ⟨-, rfl⟩ := h
      exact encodedState_keeps s l x
  | ckDecode l x k =>
      obtain ⟨i, c, -, rfl⟩ := h
      exact (judgedState_keeps s l x i).trans (setCode_keeps _ c)
  | stConfigure =>
      obtain ⟨-, -, rfl⟩ := h
      exact configuredState_keeps s
  | stStart =>
      obtain ⟨-, rfl⟩ := h
      exact startedState_keeps s
  | stStop =>
      obtain ⟨-, rfl⟩ := h
      exact stoppedState_keeps s
  | stNextblk m f =>
      obtain ⟨-, -, ⟨-, h⟩ | ⟨-, h⟩⟩ := h
      · exact h.keeps
      · exact h.keeps
  | cvAin | cvTemp | cvDac =>
      obtain ⟨_, _, rfl⟩ := h
      exact ⟨⟨rfl, rfl, rfl, rfl, rfl, rfl, rfl, rfl, rfl, rfl, rfl⟩, .of_mem_eq rfl⟩

theorem exec_keeps {i : Instr} {s t : State} (h : exec i s = .next t) : KeepsOperands s t := by
  rcases exec_raises_or_completes h with ⟨c, -, rfl⟩ | hdone
  · exact setCode_keeps s c
  · exact hdone.keeps

/-- Beyond OUTVAL the window is reserved (R61). -/
theorem windowByte_beyond_outval {s : State} {off : Nat} (h : 0x1400 ≤ off) : windowByte s off = some 0 := by
  refine windowByte_reserved (.inl ?_)
  by_contra hr
  have hrange := regionOf_range rfl hr
  cases hregion : regionOf s.cfg off <;> simp only [hregion, regionRange] at hrange <;> omega

/-- Settles O54: an operation stores nowhere else, and beyond OUTVAL the window shows no memory. -/
theorem operationsKeepTheirOperands : Obligations.OperationsKeepTheirOperands := by
  intro i s t h
  obtain ⟨⟨hcfg, hop, hscfg, hrate, hhires, harg0, harg1, hchtab, hcalram, hbus, hreply⟩, hmem⟩ := exec_keeps h
  refine ⟨hcfg, hop, hscfg, hrate, hhires, harg0, harg1, hchtab, hcalram, hbus, hreply, fun off hoff hout => ?_⟩
  by_cases hend : 0x1400 ≤ off
  · rw [windowByte_beyond_outval hend, windowByte_beyond_outval hend]
  · refine windowByte_congr hoff hcfg hchtab hcalram (hmem off ?_)
    have h400 := hout (0x400, 1) (by simp)
    have h404 := hout (0x404, 2) (by simp)
    have hC00 := hout (0xC00, 0x400) (by simp)
    have h1000 := hout (0x1000, 0x400) (by simp)
    unfold OperationStores
    omega

/-! ### The bus never stops (R235, R260) -/

/-- `r` is a next state with the configuration and the coming bus events of `s`. -/
def GoesOn (s : State) (r : Result) : Prop := ∃ t, r = .next t ∧ t.cfg = s.cfg ∧ t.bus = s.bus

theorem hostRead_goesOn (n addr : Nat) (s : State) : GoesOn s (hostRead n addr s) := by
  obtain ⟨t, ht⟩ : ∃ t, hostRead n addr s = .next t := by
    cases ha : accessOffset s.cfg n addr with
    | none => exact ⟨_, hostRead_refused ha⟩
    | some off =>
        obtain ⟨t, _, ht, -⟩ := hostRead_permitted ha
        exact ⟨t, ht⟩
  have hframe := hostRead_frame ht
  exact ⟨t, ht, by rw [hframe], by rw [hframe]⟩

theorem issue_goesOn (w : Word) (s : State) : GoesOn s (issue w s) := by
  rcases issue_cases w s with ⟨i, -, he⟩ | ⟨_, -, he⟩
  · obtain ⟨t, ht, -⟩ := exec_ends i (s.setOp w)
    obtain ⟨⟨hcfg, -, -, -, -, -, -, -, -, hbus, -⟩, -⟩ := exec_keeps ht
    exact ⟨t, he.trans ht, hcfg, hbus⟩
  · exact ⟨_, he, rfl, rfl⟩

theorem windowWrite_bus (s : State) (off n : Nat) (v : Word) : (windowWrite s off n v).bus = s.bus := by
  unfold windowWrite
  split
  · rw [writeControl_eq]
  · rw [putBytes_equalButWindows]

theorem hostWrite_goesOn (n addr : Nat) (v : Word) (s : State) : GoesOn s (hostWrite n addr v s) := by
  cases ha : accessOffset s.cfg n addr with
  | none => exact ⟨_, hostWrite_refused ha, rfl, rfl⟩
  | some off =>
      by_cases hop : off = 0
      · subst hop
        rw [hostWrite_op ha]
        exact issue_goesOn v (s.answered .ack)
      · exact ⟨_, hostWrite_of_ne_op ha hop, (windowWrite_cfg_code s off n v).1, windowWrite_bus s off n v⟩

theorem handle_goesOn (ev : BusEvent) (s : State) : GoesOn s (handle ev s) := by
  cases ev with
  | read n addr => exact hostRead_goesOn n addr s
  | write n addr v => exact hostWrite_goesOn n addr v s
  | reset => exact ⟨_, rfl, rfl, rfl⟩

theorem step_goesOn {s : State} (hc : s.cfg.legal = true) :
    ∃ t, step s = .next t ∧ t.bus = s.bus.tail ∧ t.cfg = s.cfg := by
  rcases step_cases s with ⟨hillegal, -⟩ | ⟨-, hidle, he⟩ | ⟨-, ev, rest, hbus, he⟩
  · exact absurd hc (by rw [hillegal]; decide)
  · exact ⟨s, he, by rw [hidle, List.tail_nil], rfl⟩
  · obtain ⟨t, ht, hcfg, hrest⟩ := handle_goesOn ev (s.setBus rest)
    exact ⟨t, he.trans ht, by rw [hrest, hbus, State.setBus_bus, List.tail_cons], hcfg⟩

/-- Every state that a host reaches has a legal configuration (R8). -/
theorem Reachable.legal {s : State} (h : Reachable s) : s.cfg.legal = true := by
  induction h with
  | reset c hc => exact hc
  | present s evs _ ih => exact ih
  | step s t _ hstep ih =>
      obtain ⟨u, hu, -, hcfg⟩ := step_goesOn ih
      cases hu.symm.trans hstep
      rw [hcfg, ih]

/-- Settles O17. -/
theorem blockNeverStops : Obligations.BlockNeverStops := by
  refine ⟨fun s hc => step_goesOn hc, fun s hreach => ?_⟩
  obtain ⟨t, ht, -⟩ := step_goesOn hreach.legal
  exact ⟨t, ht⟩

/-! ### Only a reset returns to IDLE (R260, C6) -/

/-- The table leads back to IDLE from nowhere else (R180). -/
theorem streamTable_ne_idle {i : Instr} {st st' : StreamState} (hst : st ≠ .idle) (h : streamTable i st = some st') :
    st' ≠ .idle := by
  cases i with
  | stConfigure =>
      rw [streamTable_stConfigure, Option.ite_none_left_eq_some, Option.some.injEq] at h
      exact h.2 ▸ nofun
  | stStart =>
      rw [streamTable_stStart, Option.ite_none_right_eq_some, Option.some.injEq] at h
      exact h.2 ▸ nofun
  | stNextblk m f =>
      rw [streamTable_stNextblk, Option.ite_none_right_eq_some, Option.some.injEq] at h
      exact h.2 ▸ nofun
  | stStop =>
      rw [streamTable_stStop, Option.ite_none_right_eq_some, Option.some.injEq] at h
      exact h.2 ▸ nofun
  | _ =>
      cases h
      exact hst

theorem exec_ne_idle {i : Instr} {s t : State} (hs : s.stream ≠ .idle) (h : exec i s = .next t) : t.stream ≠ .idle := by
  have htable := stateMovesOnlyAsTheTableSays i s
  cases hrow : streamTable i s.stream with
  | none =>
      rw [hrow] at htable
      cases htable.symm.trans h
      exact hs
  | some st =>
      rw [hrow] at htable
      obtain ⟨u, hu, -, hstream⟩ := htable
      cases hu.symm.trans h
      rcases hstream with hmoved | ⟨-, -, hstayed⟩
      · rw [hmoved]
        exact streamTable_ne_idle hs hrow
      · rwa [hstayed]

theorem hostWrite_ne_idle {n addr : Nat} {v : Word} {s t : State} (hs : s.stream ≠ .idle)
    (h : hostWrite n addr v s = .next t) : t.stream ≠ .idle := by
  cases ha : accessOffset s.cfg n addr with
  | none =>
      cases (hostWrite_refused ha).symm.trans h
      exact hs
  | some off =>
      by_cases hop : off = 0
      · subst hop
        rw [hostWrite_op ha] at h
        rcases issue_cases v (s.answered .ack) with ⟨i, -, he⟩ | ⟨_, -, he⟩
        · exact exec_ne_idle (s := (s.answered .ack).setOp v) hs (he.symm.trans h)
        · cases he.symm.trans h
          exact hs
      · cases (hostWrite_of_ne_op ha hop).symm.trans h
        rwa [State.answered_stream, (windowWrite_sameLeftover s off n v).1]

/-- Settles O18: of the events other than a reset only an operation moves STATE. -/
theorem onlyResetReturnsToIdle : Obligations.OnlyResetReturnsToIdle := by
  intro s t hs hreset h
  rcases step_cases s with ⟨_, he⟩ | ⟨_, _, he⟩ | ⟨_, ev, rest, hbus, he⟩
  · cases he.symm.trans h
  · cases he.symm.trans h
    exact hs
  · rw [he] at h
    cases ev with
    | read n addr =>
        rw [hostRead_frame h]
        exact hs
    | write n addr v => exact hostWrite_ne_idle (s := s.setBus rest) hs h
    | reset => exact absurd (by rw [hbus, List.head?_cons]) hreset

end Sys2Proof.Machine

/-! ## CK.ENCODE and CK.DECODE, whole (`40_codec.md` R120 to R126) -/

namespace Sys2Proof.Machine

/-! ### Refusals (R123, R126) -/

/-- Settles O22. -/
theorem ckEncodeRefusesIllegalLength : Obligations.CkEncodeRefusesIllegalLength := by
  intro s l x hillegal
  rcases execCkEncode_cases l x s with ⟨_, he⟩ | ⟨hlegal, _⟩
  · exact he
  · exact absurd (frameLenLegal_iff.mp hlegal) hillegal

/-- Settles O24: the two refusals come before anything is read. -/
theorem ckDecodeRefusesOperandsThenLength : Obligations.CkDecodeRefusesOperandsThenLength := by
  intro s l x k
  rcases execCkDecode_cases l x k s with ⟨hbad, he⟩ | ⟨hlegal, hk, hkl, hrest⟩
  · refine ⟨fun _ => he, fun hl hk hkl _ => ?_⟩
    rcases hbad with hillegal | hoperands
    · cases (frameLenLegal_iff.mpr hl).symm.trans hillegal
    · omega
  · refine ⟨fun hbad => ?_, fun _ _ _ hlen => ?_⟩
    · rcases hbad with hillegal | hk0 | hlk
      · exact absurd (frameLenLegal_iff.mp hlegal) hillegal
      · omega
      · omega
    · rcases hrest with ⟨_, he⟩ | ⟨hsame, _⟩
      · exact he
      · exact absurd ((receivedLen_eq s.arg1).symm.trans hsame) hlen

/-! ### A frame given as a list (R120, R122) -/

/-- The frame that a list of bytes spells. -/
def listFrame (frame : List Byte) (i : Nat) : Byte := frame.getD i 0

theorem getElem?_eq_listFrame {frame : List Byte} {i : Nat} (h : i < frame.length) :
    frame[i]? = some (listFrame frame i) := by
  rw [listFrame, List.getD_eq_getElem _ _ h, List.getElem?_eq_getElem h]

/-- The sum over a list from an index on. -/
theorem frameSum_listFrame (frame : List Byte) (lo : Nat) :
    frameSum (listFrame frame) lo frame.length = byteSum (frame.drop lo) := by
  rw [frameSum, Finset.sum_Ico_eq_sum_range, byteSum, Finset.sum_range, ← List.length_drop]
  rw [← List.sum_ofFn]
  congr 1
  refine List.ext_getElem (by simp) fun i hi hi' => ?_
  have hlen : lo + i < frame.length := by simp at hi; omega
  simp [listFrame, hlen]

/-- The reduction in the closed form of R121, on a sum of at most 256 bytes. -/
theorem reduce8_eq_checksum8 (r : Ck8Reduce) {t : Nat} (ht : t < 65536) : reduce8 r t = checksum8 r t := by
  cases r with
  | fold =>
      rcases Nat.eq_zero_or_pos t with rfl | hpos
      · rfl
      · rw [reduce8_fold_of_pos hpos ht, checksum8, if_neg (by omega)]
  | mod256 => rfl

theorem byteSum_drop_lt {frame : List Byte} (lo : Nat) (h : frame.length ≤ 256) : byteSum (frame.drop lo) < 65536 := by
  rw [← frameSum_listFrame]
  exact frameSum_lt h

/-! ### What CK.ENCODE leaves (R123, R124) -/

section
variable {s : State} {l : Nat} {x : Bool}

/-- The checksum-16 that CK.ENCODE computes, 0 for a short frame. -/
def encodedCk16 (s : State) (l : Nat) (x : Bool) : Nat := if x then ck16 s s.draws l else 0

/-- The checksum-8 that CK.ENCODE computes. -/
def encodedCk8 (s : State) (l : Nat) (x : Bool) : Nat := ck8 (afterCk16 s l x) (s.draws + 1) l

theorem encodedCk16_lt (s : State) (l : Nat) (x : Bool) : encodedCk16 s l x < 65536 := by
  unfold encodedCk16
  split
  · exact ck16_lt _ _ _
  · decide

theorem encodedState_code (s : State) (l : Nat) (x : Bool) : (encodedState s l x).code = .ok := by
  rw [encodedState, State.setCode_code]

theorem encodedState_res0 (s : State) (l : Nat) (x : Bool) :
    (encodedState s l x).res0 = BitVec.ofNat 32 (encodedCk8 s l x + encodedCk16 s l x * 65536) := by
  rw [encodedState, State.setCode_res0, State.drawn_res0, State.setRes0_res0]
  rfl

/-- The updates that end CK.ENCODE, as one. -/
theorem ckEncode_updates (s : State) (m : Memory) (b : Byte) (v : Word) :
    ((((s.setMem m).putFbuf 0 b).setRes0 v).drawn 2).setCode .ok =
      { s with code := .ok, res0 := v, mem := memoryStore m fbufBase [b], draws := s.draws + 2 } := rfl

theorem afterCk16_eq_setMem (s : State) (l : Nat) (x : Bool) : afterCk16 s l x = s.setMem (afterCk16 s l x).mem := by
  cases x <;> rfl

/-- CK.ENCODE writes CODE, RES0 and memory, and counts its reads. -/
theorem encodedState_frame (s : State) (l : Nat) (x : Bool) :
    encodedState s l x =
      { s with code := (encodedState s l x).code, res0 := (encodedState s l x).res0,
               mem := (encodedState s l x).mem, draws := (encodedState s l x).draws } := by
  have hmem := afterCk16_eq_setMem s l x
  unfold encodedState
  generalize afterCk16 s l x = u at hmem
  generalize BitVec.ofNat 8 (ck8 u (s.draws + 1) l) = b
  generalize checksumWord (ck8 u (s.draws + 1) l) (if x then ck16 s s.draws l else 0) = results
  rw [hmem, ckEncode_updates]

/-- The checksum-8 stands in byte 0 (R105). -/
theorem windowByte_encodedState_zero (hc : s.cfg.legal = true) (hl : LegalFrame s.cfg l x) :
    windowByte (encodedState s l x) 0x400 = some (BitVec.ofNat 8 (encodedCk8 s l x)) := by
  obtain ⟨hl2, -, hmax, -⟩ := hl.bounds hc
  rw [windowByte_frame (i := 0) (encodedState_cfg s l x) hc (by omega), memoryGet_encodedState, if_pos rfl]
  rfl

/-- The checksum-16 of an extended frame stands in bytes 4 and 5, low byte first (R104, R122). -/
theorem windowHolds_encodedState_ck16 (hc : s.cfg.legal = true) (hl : LegalFrame s.cfg l x) (hx : x = true) :
    windowHolds (encodedState s l x) 0x404
      [BitVec.ofNat 8 (encodedCk16 s l x), BitVec.ofNat 8 (encodedCk16 s l x / 256)] = true := by
  obtain ⟨-, -, hmax, hext⟩ := hl.bounds hc
  have hl6 := hext hx
  have hck16 : encodedCk16 s l x = ck16 s s.draws l := if_pos hx
  have hbyte (i : Nat) (hi : i = 4 ∨ i = 5) : windowByte (encodedState s l x) (0x400 + i) =
      some (BitVec.ofNat 8 (encodedCk16 s l x / 256 ^ (i - 4))) := by
    rw [windowByte_frame (encodedState_cfg s l x) hc (by omega), memoryGet_encodedState, if_neg (by omega),
      memoryGet_afterCk16, if_pos ⟨hx, hi⟩, hck16]
  rw [windowHolds_cons, windowHolds_cons]
  refine ⟨(hbyte 4 (.inl rfl)).trans ?_, (hbyte 5 (.inr rfl)).trans ?_, rfl⟩
  · rw [Nat.sub_self, Nat.pow_zero, Nat.div_one]
  · rw [show 5 - 4 = 1 from rfl, Nat.pow_one]

/-- CK.ENCODE leaves every other byte of the window. -/
theorem encodedState_sameWindow (s : State) (l : Nat) (x : Bool) :
    SameWindowExcept [(0x400, 1), (0x404, if x then 2 else 0)] s (encodedState s l x) := by
  intro off hoff hout
  obtain ⟨⟨hcfg, -, -, -, -, -, -, hchtab, hcalram, -⟩, -⟩ := encodedState_keeps s l x
  have h400 := hout (0x400, 1) (by simp)
  have h404 := hout (0x404, if x then 2 else 0) (by simp)
  refine windowByte_congr hoff hcfg hchtab hcalram (memoryGet_encodedState_other s l x (by omega) fun hx => ?_)
  rw [if_pos hx] at h404
  omega

/-- Settles O21. -/
theorem ckEncodeCompletes : Obligations.CkEncodeCompletes := by
  intro s l x hc hl
  exact ⟨encodedState s l x, encodedCk8 s l x, encodedCk16 s l x, execCkEncode_legal hl, ck8_lt _ _ _,
    encodedCk16_lt s l x, fun hx => if_neg (by simp [hx]), encodedState_code s l x, encodedState_res0 s l x,
    windowByte_encodedState_zero hc hl, windowHolds_encodedState_ck16 hc hl, encodedState_sameWindow s l x,
    encodedState_frame s l x⟩

/-! ### The checksums of a written frame -/

/-- The frame with its checksum-16 in place. -/
def withCk16 (x : Bool) (c16 : Nat) (frame : List Byte) : List Byte :=
  if x then (frame.set 4 (BitVec.ofNat 8 c16)).set 5 (BitVec.ofNat 8 (c16 / 256)) else frame

@[simp] theorem withCk16_length (x : Bool) (c16 : Nat) (frame : List Byte) :
    (withCk16 x c16 frame).length = frame.length := by
  cases x <;> simp [withCk16]

variable {frame : List Byte} (hc : s.cfg.legal = true) (hl : LegalFrame s.cfg l x)
  (hplaced : ∀ i, PayloadIndex l x i → windowByte s (0x400 + i) = frame[i]?)
include hc hl hplaced

/-- The placed bytes are memory bytes. -/
theorem memoryGet_of_placed {i : Nat} (hi : PayloadIndex l x i) :
    memoryGet s.mem (fbufBase + i) = frame[i]? := by
  obtain ⟨-, -, hmax, -⟩ := hl.bounds hc
  rw [← windowByte_frame rfl hc (hi.lt.trans_le hmax), hplaced i hi]

variable (hlen : frame.length = l)
include hlen

theorem encodedCk16_of_placed : encodedCk16 s l x = frameCk16 x frame := by
  unfold encodedCk16 frameCk16
  split
  next hx =>
    have hholds : FrameHolds s 6 l (listFrame frame) := fun i hlo hhi => by
      rw [memoryGet_of_placed hc hl hplaced ⟨by omega, hhi, fun _ => by omega⟩,
        getElem?_eq_listFrame (by omega)]
    rw [hholds.ck16_eq, ← hlen, frameSum_listFrame]
  next => rfl

/-- After the checksum-16 every byte but byte 0 is written. -/
theorem afterCk16_frameHolds :
    FrameHolds (afterCk16 s l x) 1 l (listFrame (withCk16 x (encodedCk16 s l x) frame)) := by
  intro i hlo hhi
  rw [memoryGet_afterCk16, ← getElem?_eq_listFrame (by rw [withCk16_length]; omega)]
  by_cases hck16 : x = true ∧ (i = 4 ∨ i = 5)
  · obtain ⟨rfl, hi⟩ := hck16
    rw [if_pos ⟨rfl, hi⟩]
    rcases hi with rfl | rfl <;> simp [withCk16, encodedCk16, hlen, hhi]
  · rw [if_neg hck16, memoryGet_of_placed hc hl hplaced
      ⟨hlo, hhi, fun hx => not_or.mp fun h => hck16 ⟨hx, h⟩⟩]
    cases x with
    | false => rfl
    | true =>
        have hi : i ≠ 4 ∧ i ≠ 5 := by simpa using hck16
        simp [withCk16, hi.1.symm, hi.2.symm]

theorem encodedCk8_of_placed : encodedCk8 s l x =
    checksum8 s.cfg.ck8Reduce (byteSum ((withCk16 x (frameCk16 x frame) frame).drop 1)) := by
  obtain ⟨-, hl256, -⟩ := hl.bounds hc
  have hholds := afterCk16_frameHolds hc hl hplaced hlen
  rw [encodedCk16_of_placed hc hl hplaced hlen] at hholds
  have hlen1 : (withCk16 x (frameCk16 x frame) frame).length = l := by rw [withCk16_length, hlen]
  rw [encodedCk8, hholds.ck8_eq, afterCk16_cfg, ← reduce8_eq_checksum8 _ (byteSum_drop_lt 1 (by omega)),
    ← frameSum_listFrame, hlen1]

end

/-- Settles O20: O21, with the checksums that a written payload gives. -/
theorem ckEncodeInsertsTheChecksums : Obligations.CkEncodeInsertsTheChecksums := by
  intro s l x frame hc hl hlen hplaced c16 frame1 c8
  obtain ⟨hl2, -, hmax, -⟩ := hl.bounds hc
  have hck16 : encodedCk16 s l x = c16 := encodedCk16_of_placed hc hl hplaced hlen
  have hck8 : encodedCk8 s l x = c8 := encodedCk8_of_placed hc hl hplaced hlen
  have hframe1 : frame1.length = l := (withCk16_length x c16 frame).trans hlen
  have hfirst : (frame1.set 0 (BitVec.ofNat 8 c8)).take 1 = [BitVec.ofNat 8 c8] := by
    obtain ⟨b, bs, hcons⟩ := List.exists_cons_of_length_pos (by omega : 0 < frame1.length)
    rw [hcons]
    rfl
  refine ⟨encodedState s l x, execCkEncode_legal hl, encodedState_code s l x, ?_, ?_, fun i hi => ?_, fun hx => ?_,
    encodedState_sameWindow s l x, encodedState_frame s l x⟩
  · rw [encodedState_res0, hck8, hck16]
  · rw [hfirst, windowHolds_cons, windowByte_encodedState_zero hc hl, hck8]
    exact ⟨rfl, rfl⟩
  · rw [windowByte_frame (encodedState_cfg s l x) hc (hi.lt.trans_le hmax), memoryGet_encodedState_payload hi,
      memoryGet_of_placed hc hl hplaced hi]
  · rw [← hck16]
    exact windowHolds_encodedState_ck16 hc hl hx

/-! ### What CK.DECODE leaves (R125, R126) -/

theorem echoNat_lt (arg0 : Word) (i : Nat) : echoNat arg0 i < 256 := Nat.mod_lt _ (by decide)

/-- A frame byte is the expected echo when it is its number. -/
theorem eq_echoByte_iff {b : Byte} {arg0 : Word} {i : Nat} : b = echoByte arg0 i ↔ b.toNat = echoNat arg0 i := by
  rw [echoByte_eq, ← BitVec.toNat_inj, BitVec.toNat_ofNat, Nat.mod_eq_of_lt (echoNat_lt arg0 i)]

/-- The first mismatch among consecutive indices: the bytes before it agree. -/
theorem firstMismatch_range'_some {s : State} {d i : Nat} : ∀ {k a : Nat},
    firstMismatch s d (List.range' a k) = some i →
    a ≤ i ∧ i < a + k ∧ fbufByte s d i ≠ echoByte s.arg0 i ∧
      ∀ j, a ≤ j → j < i → fbufByte s d j = echoByte s.arg0 j
  | 0, _, h => by cases h
  | k + 1, a, h => by
      rw [List.range'_succ, firstMismatch] at h
      split at h
      next hsame =>
        obtain ⟨hlo, hhi, hdiffers, hbefore⟩ := firstMismatch_range'_some h
        refine ⟨by omega, by omega, hdiffers, fun j hj hji => ?_⟩
        rcases Nat.eq_or_lt_of_le hj with rfl | hlt
        · exact hsame
        · exact hbefore j hlt hji
      next hdiffers =>
        obtain rfl := Option.some.inj h
        exact ⟨le_rfl, by omega, hdiffers, fun j hj hji => by omega⟩

/-- The updates that end CK.DECODE, as one. -/
theorem ckDecode_updates (s : State) (v w i r : Word) (n : Nat) (c : Code) :
    ((s.setResults v w i r).drawn n).setCode c =
      { s with code := c, res0 := v, res1 := w, res2 := i, res3 := r, draws := s.draws + n } := rfl

/-- CK.DECODE writes CODE and RES0 to RES2, and counts its reads. -/
theorem judgedState_setCode (s : State) (l : Nat) (x : Bool) (i : Nat) (c : Code) :
    (judgedState s l x i).setCode c =
      { s with code := c, res0 := checksumWord (recomputed s l x).1 (recomputed s l x).2,
               res1 := checksumWord (stored s x).1 (stored s x).2, res2 := BitVec.ofNat 32 i,
               draws := s.draws + 5 } := by
  rw [judgedState, State.judged, ckDecode_updates]

/-- Settles O25, by the three ways to judge. -/
theorem ckDecodeCompletes : Obligations.CkDecodeCompletes := by
  intro s l x k hc hl hk hkl hn
  obtain ⟨-, hl256, -⟩ := hl.bounds hc
  rcases execCkDecode_judges hl hk hkl hn with ⟨-, he⟩ | ⟨-, ⟨i, hi, he⟩ | ⟨-, he⟩⟩ <;> rw [judgedState_setCode] at he
  · exact ⟨_, he, .inr (.inl rfl), fun _ => rfl, nofun, rfl⟩
  · obtain ⟨hlo, hhi, -⟩ := firstMismatch_range'_some hi
    have hres2 : (BitVec.ofNat 32 i).toNat = i := by
      rw [BitVec.toNat_ofNat, Nat.mod_eq_of_lt (by omega)]
    exact ⟨_, he, .inr (.inr rfl), fun h => absurd rfl h, fun _ => by dsimp only; omega, rfl⟩
  · exact ⟨_, he, .inl rfl, fun _ => rfl, nofun, rfl⟩

/-- A frame that stands in the window is written in FBUF. -/
theorem frameHolds_of_window {s : State} {l : Nat} {x : Bool} {frame : List Byte} (hc : s.cfg.legal = true)
    (hl : LegalFrame s.cfg l x) (hlen : frame.length = l) (h : windowHolds s 0x400 frame = true) :
    FrameHolds s 0 l (listFrame frame) := by
  obtain ⟨-, -, hmax, -⟩ := hl.bounds hc
  intro i _ hi
  rw [← windowByte_frame rfl hc (by omega), windowHolds_iff.mp h i (by omega), getElem?_eq_listFrame (by omega)]

/-- The checksums of a frame that a list spells, as the statements write them. -/
theorem frameChecksums_listFrame {frame : List Byte} (r : Ck8Reduce) (x : Bool) (h : frame.length ≤ 256) :
    frameChecksums r frame.length x (listFrame frame) =
      (checksum8 r (byteSum (frame.drop 1)), frameCk16 x frame) := by
  rw [frameChecksums, frameSum_listFrame, frameSum_listFrame, reduce8_eq_checksum8 _ (byteSum_drop_lt 1 h), frameCk16]

/-- Settles O23: on a written frame the checksums are the frame's, and the echo is compared with its bytes. -/
theorem ckDecodeJudgesTheFrame : Obligations.CkDecodeJudgesTheFrame := by
  intro s l x k frame hc hl hk hk3 hkl hn hlen hholds c8 c16 s8 s16 differs
  obtain ⟨hl2, hl256, -, hext⟩ := hl.bounds hc
  have hf := frameHolds_of_window hc hl hlen hholds
  have hrecomputed : recomputed s l x = (c8, c16) := by
    rw [hf.recomputed_eq, ← hlen, frameChecksums_listFrame _ _ (by omega)]
  have hstored : stored s x = (s8, s16) := hf.stored_eq hl2 hext
  have hagree : recomputed s l x = stored s x ↔ c8 = s8 ∧ c16 = s16 := by
    rw [hrecomputed, hstored, Prod.mk.injEq]
  have hecho {i : Nat} (hi : i ≤ k) : fbufByte s (s.draws + 4) i = echoByte s.arg0 i ↔ ¬ differs i := by
    rw [hf.fbufByte_eq _ (Nat.zero_le i) (by omega), eq_echoByte_iff, not_not]
    rfl
  have hframe (i : Nat) (c : Code) : (judgedState s l x i).setCode c =
      { s with code := c, res0 := BitVec.ofNat 32 (c8 + c16 * 65536), res1 := BitVec.ofNat 32 (s8 + s16 * 65536),
               res2 := BitVec.ofNat 32 i, draws := s.draws + 5 } := by
    rw [judgedState_setCode, hrecomputed, hstored]
    rfl
  rcases execCkDecode_judges hl hk hkl hn with ⟨hne, he⟩ | ⟨hsame, ⟨i, hi, he⟩ | ⟨hnone, he⟩⟩
  · rw [hframe] at he
    exact ⟨_, he, rfl, fun _ => ⟨rfl, rfl⟩, fun h8 h16 _ => absurd (hagree.mpr ⟨h8, h16⟩) hne,
      fun h8 h16 => absurd (hagree.mpr ⟨h8, h16⟩) hne⟩
  · obtain ⟨h8, h16⟩ := hagree.mp hsame
    obtain ⟨hlo, hhi, hfound, hbefore⟩ := firstMismatch_range'_some hi
    have hdiffers : differs i := not_not.mp (mt (hecho (by omega)).mpr hfound)
    rw [hframe] at he
    refine ⟨_, he, rfl, fun hne => by omega, fun _ _ hall => absurd hdiffers (hall i hlo (by omega)),
      fun _ _ j hj hjk hdj hmin => ?_⟩
    obtain rfl : j = i := by
      rcases Nat.lt_trichotomy j i with hlt | heq | hgt
      · exact absurd hdj ((hecho hjk).mp (hbefore j hj hlt))
      · exact heq
      · exact absurd hdiffers (hmin i hlo hgt)
    exact ⟨rfl, rfl⟩
  · obtain ⟨h8, h16⟩ := hagree.mp hsame
    rw [hframe] at he
    refine ⟨_, he, rfl, fun hne => by omega, fun _ _ _ => ⟨rfl, rfl⟩, fun _ _ j hj hjk hdj => ?_⟩
    have hsame : fbufByte s (s.draws + 4) j = echoByte s.arg0 j :=
      firstMismatch_none.mp hnone j (List.mem_range'_1.mpr ⟨hj, by omega⟩)
    exact absurd hdj ((hecho hjk).mp hsame)

end Sys2Proof.Machine

/-! ## The invariant of the block (`10_state.md` R25, R30, R31, R35, R37, R45 to R47, R51, R61) -/

namespace Sys2Proof.Machine

/-! ### Its five parts, as propositions -/

theorem State.inv_iff {s : State} : s.Inv ↔
    s.cfg.legal = true ∧ memoryLegal s = true ∧ chtabLegal s = true ∧ latchLegal s = true ∧ leftoverLegal s = true := by
  simp only [State.Inv, State.inv, Bool.and_eq_true, and_assoc]

/-- A memory is canonical and lists bytes of the byte windows only (R52, R61). -/
def MemoryFits (c : Config) (m : Memory) : Prop := memoryWf m = true ∧ ∀ cell ∈ m, inByteWindow c cell.1 = true

theorem memoryLegal_iff {s : State} : memoryLegal s = true ↔ MemoryFits s.cfg s.mem := by
  simp only [memoryLegal, MemoryFits, Bool.and_eq_true, List.all_eq_true]

/-- Every entry from `n` on is 0; beyond the table's end there is none. -/
theorem tableZeroFrom_iff {t : Vector SlotEntry 16} {n : Nat} :
    tableZeroFrom t n = true ↔ ∀ i, n ≤ i → tableEntry t i = 0 := by
  simp only [tableZeroFrom, List.all_eq_true, List.mem_range, Bool.or_eq_true, decide_eq_true_eq, beq_iff_eq]
  refine ⟨fun h i hi => ?_, fun h i _ => (Nat.lt_or_ge i n).imp_right (h i)⟩
  by_cases h16 : i < 16
  · exact (h i h16).resolve_left (by omega)
  · exact tableEntry_beyond (by omega)

/-- What is latched outside IDLE (R181). -/
def LatchFits (s : State) : Prop :=
  1 ≤ s.anch.toNat ∧ s.anch.toNat ≤ s.cfg.maxCh ∧ (∀ i, s.anch.toNat ≤ i → tableEntry s.acttab i = 0) ∧
  (∀ i, i < s.anch.toNat → entryKind (tableEntry s.acttab i) ≠ 3) ∧
  (s.pprR.toNat = s.cfg.pprLo ∨ s.pprR.toNat = s.cfg.pprHi) ∧ s.pktR.toNat = packetSize s.cfg s.atr

theorem latchLegal_iff {s : State} (hs : s.stream ≠ .idle) : latchLegal s = true ↔ LatchFits s := by
  simp only [latchLegal, if_neg hs, LatchFits, Bool.and_eq_true, Bool.or_eq_true, decide_eq_true_eq, beq_iff_eq,
    tableZeroFrom_iff, List.all_eq_true, List.mem_range, and_assoc]

/-- The leftover: RBUF fits and is empty on the local transport, both are at rest outside STREAMING, and SLOT names a
latched slot (R45 to R47). -/
def LeftoverFits (s : State) : Prop :=
  s.rbuf.length ≤ s.cfg.rbufCap ∧ (s.atr = true ∨ s.rbuf = []) ∧
  (s.stream = .streaming ∨ (s.rbuf = [] ∧ s.slot = 0)) ∧ s.slot.toNat < max s.anch.toNat 1

theorem leftoverLegal_iff {s : State} : leftoverLegal s = true ↔ LeftoverFits s := by
  simp only [leftoverLegal, LeftoverFits, Bool.and_eq_true, Bool.or_eq_true, decide_eq_true_eq, beq_iff_eq, and_assoc]

/-! ### Updates that touch no part -/

/-- The latch is judged by STATE, the configuration and the latched fields. -/
theorem latchLegal_congr {s t : State} (hcfg : t.cfg = s.cfg) (hstream : t.stream = s.stream) (h : SameLatch s t) :
    latchLegal t = latchLegal s := by
  obtain ⟨hatr, hanch, hacttab, hppr, hpkt⟩ := h
  simp only [latchLegal, hcfg, hstream, hatr, hanch, hacttab, hppr, hpkt]

/-- `t` has every field of `s` that the invariant speaks of. -/
def SameInvFields (s t : State) : Prop :=
  t.cfg = s.cfg ∧ t.mem = s.mem ∧ t.chtab = s.chtab ∧ SameLatch s t ∧ SameLeftover s t

theorem SameInvFields.inv {s t : State} (h : SameInvFields s t) (hs : s.Inv) : t.Inv := by
  obtain ⟨hcfg, hmem, hchtab, hlatch, hstream, hrbuf, hslot⟩ := h
  rw [State.inv_iff] at hs ⊢
  rw [latchLegal_congr hcfg hstream hlatch]
  obtain ⟨hatr, hanch, -⟩ := hlatch
  simpa only [memoryLegal, chtabLegal, leftoverLegal, hcfg, hmem, hchtab, hstream, hrbuf, hslot, hatr, hanch] using hs

theorem sameInvFields_setCode (s : State) (c : Code) : SameInvFields s (s.setCode c) :=
  ⟨rfl, rfl, rfl, ⟨rfl, rfl, rfl, rfl, rfl⟩, rfl, rfl, rfl⟩

/-! ### Memory (R52, R61) -/

/-- A store within the byte windows keeps memory canonical and within them. -/
theorem MemoryFits.store {c : Config} {m : Memory} (h : MemoryFits c m) {x : Nat} {bs : List Byte}
    (hbs : ∀ i, i < bs.length → inByteWindow c (x + i) = true) : MemoryFits c (memoryStore m x bs) := by
  obtain ⟨hwf, hwindow⟩ := h
  refine ⟨memoryStore_wf x bs hwf, fun cell hcell => ?_⟩
  rcases mem_memoryStore hcell with hold | ⟨hlo, hhi⟩
  · exact hwindow cell hold
  · have hin := hbs (cell.1 - x) (by omega)
    rwa [Nat.add_sub_cancel' hlo] at hin

theorem inByteWindow_of_region {c : Config} {off : Nat}
    (h : regionOf c off = .fbuf ∨ regionOf c off = .inbuf ∨ regionOf c off = .rawout ∨ regionOf c off = .outval) :
    inByteWindow c off = true := by
  unfold inByteWindow
  rcases h with h | h | h | h <;> rw [h]

/-- CK.ENCODE stores within the frame (R41, R123). -/
theorem encodedState_memoryFits {s : State} {l : Nat} {x : Bool} (hc : s.cfg.legal = true) (hl : LegalFrame s.cfg l x)
    (h : MemoryFits s.cfg s.mem) : MemoryFits s.cfg (encodedState s l x).mem := by
  obtain ⟨hl2, -, hmax, hext⟩ := hl.bounds hc
  have hfacts := legal_facts hc
  have hframe {i : Nat} (hi : i < l) : inByteWindow s.cfg (fbufBase + i) = true :=
    inByteWindow_of_region (.inl (regionOf_fbuf (by omega) (by omega)))
  have hck16 : MemoryFits s.cfg (afterCk16 s l x).mem := by
    cases x with
    | false => exact h
    | true =>
        refine h.store fun i hi => ?_
        have hl6 := hext rfl
        rw [leBytes_length] at hi
        rw [Nat.add_assoc]
        exact hframe (by omega)
  refine hck16.store fun i hi => ?_
  rw [List.length_singleton] at hi
  exact hframe (by omega)

/-- A block is stored within RAWOUT and OUTVAL (R43, R44). -/
theorem blockMemory_fits {c : Config} {m : Memory} (hc : c.legal = true) (ps : List (List Byte)) (vs : List F64)
    (h : MemoryFits c m) : MemoryFits c (blockMemory c m ps vs) := by
  have hfacts := legal_facts hc
  refine (h.store fun i hi => ?_).store fun i hi => ?_
  · rw [List.length_take] at hi
    exact inByteWindow_of_region (.inr (.inr (.inl (regionOf_rawout (by omega) (by omega)))))
  · rw [List.length_take] at hi
    exact inByteWindow_of_region (.inr (.inr (.inr (regionOf_outval (by omega) (by omega)))))

/-! ### Every operation keeps the invariant -/

/-- An update that keeps the configuration and CHTAB keeps the invariant when it keeps the other three parts. -/
theorem State.Inv.of_parts {s t : State} (hs : s.Inv) (hcfg : t.cfg = s.cfg) (hchtab : t.chtab = s.chtab)
    (hmem : MemoryFits s.cfg t.mem) (hlatch : latchLegal t = true) (hleftover : LeftoverFits t) : t.Inv := by
  obtain ⟨hlegal, -, hch, -⟩ := State.inv_iff.mp hs
  refine State.inv_iff.mpr ⟨hcfg ▸ hlegal, memoryLegal_iff.mpr (hcfg ▸ hmem), ?_, hlatch, leftoverLegal_iff.mpr hleftover⟩
  rwa [chtabLegal, hchtab, hcfg]

theorem State.Inv.memoryFits {s : State} (hs : s.Inv) : MemoryFits s.cfg s.mem := by
  obtain ⟨-, hmem, -⟩ := State.inv_iff.mp hs
  exact memoryLegal_iff.mp hmem

theorem State.Inv.leftoverFits {s : State} (hs : s.Inv) : LeftoverFits s := by
  obtain ⟨-, -, -, -, hleftover⟩ := State.inv_iff.mp hs
  exact leftoverLegal_iff.mp hleftover

theorem State.Inv.latchLegal {s : State} (hs : s.Inv) : latchLegal s = true := by
  obtain ⟨-, -, -, hlatch, -⟩ := State.inv_iff.mp hs
  exact hlatch

theorem State.Inv.latchFits {s : State} (hs : s.Inv) (hstream : s.stream ≠ .idle) : LatchFits s :=
  (latchLegal_iff hstream).mp hs.latchLegal

/-- Under the invariant there is at least one slot outside IDLE, and at most 16 (R8, R37). -/
theorem State.Inv.anch_bounds {s : State} (hs : s.Inv) (hstream : s.stream ≠ .idle) :
    0 < s.anch.toNat ∧ s.anch.toNat ≤ 16 := by
  obtain ⟨hlegal, -⟩ := hs.legal_rbuf
  obtain ⟨hpos, hmax, -⟩ := hs.latchFits hstream
  have hfacts := legal_facts hlegal
  omega

theorem leftoverFits_of_empty {s : State} (hrbuf : s.rbuf = []) (hslot : s.slot = 0) : LeftoverFits s := by
  refine ⟨by rw [hrbuf]; exact Nat.zero_le _, .inr hrbuf, .inr ⟨hrbuf, hslot⟩, ?_⟩
  rw [hslot]
  exact Nat.lt_of_lt_of_le Nat.zero_lt_one (Nat.le_max_right _ _)

theorem LeftoverFits.congr {s t : State} (h : LeftoverFits s) (hcfg : t.cfg = s.cfg) (hlatch : SameLatch s t)
    (hsame : SameLeftover s t) : LeftoverFits t := by
  obtain ⟨hatr, hanch, -⟩ := hlatch
  obtain ⟨hstream, hrbuf, hslot⟩ := hsame
  unfold LeftoverFits
  rwa [hcfg, hatr, hanch, hstream, hrbuf, hslot]

theorem encodedState_inv {s : State} {l : Nat} {x : Bool} (hs : s.Inv) (hl : LegalFrame s.cfg l x) :
    (encodedState s l x).Inv := by
  obtain ⟨hlegal, -⟩ := hs.legal_rbuf
  obtain ⟨⟨hcfg, -, -, -, -, -, -, hchtab, -⟩, -⟩ := encodedState_keeps s l x
  have hleftover : SameLeftover s (encodedState s l x) := execCkEncode_sameLeftover (execCkEncode_legal hl)
  have hlatch : SameLatch s (encodedState s l x) := by
    rw [encodedState_frame]
    exact ⟨rfl, rfl, rfl, rfl, rfl⟩
  refine hs.of_parts hcfg hchtab (encodedState_memoryFits hlegal hl hs.memoryFits) ?_
    (hs.leftoverFits.congr hcfg hlatch hleftover)
  rw [latchLegal_congr hcfg hleftover.1 hlatch]
  exact hs.latchLegal

theorem sameInvFields_judged (s : State) (l : Nat) (x : Bool) (i : Nat) (c : Code) :
    SameInvFields s ((judgedState s l x i).setCode c) := by
  rw [judgedState_setCode]
  exact ⟨rfl, rfl, rfl, ⟨rfl, rfl, rfl, rfl, rfl⟩, rfl, rfl, rfl⟩

/-- The latch speaks of no field that ST.START and ST.STOP write but STATE, and STATE stays outside IDLE. -/
theorem State.Inv.restarted {s t : State} (hs : s.Inv) (hstream : s.stream ≠ .idle) (hstream' : t.stream ≠ .idle)
    (hcfg : t.cfg = s.cfg) (hmem : t.mem = s.mem) (hchtab : t.chtab = s.chtab) (hlatch : SameLatch s t)
    (hrbuf : t.rbuf = []) (hslot : t.slot = 0) : t.Inv := by
  refine hs.of_parts hcfg hchtab (hmem ▸ hs.memoryFits) ((latchLegal_iff hstream').mpr ?_)
    (leftoverFits_of_empty hrbuf hslot)
  obtain ⟨hatr, hanch, hacttab, hppr, hpkt⟩ := hlatch
  have hfits := hs.latchFits hstream
  unfold LatchFits at hfits ⊢
  rwa [hcfg, hatr, hanch, hacttab, hppr, hpkt]

theorem startedState_inv {s : State} (hs : s.Inv) (hstream : s.stream = .configured) : (startedState s).Inv :=
  hs.restarted (by rw [hstream]; decide) nofun rfl rfl rfl ⟨rfl, rfl, rfl, rfl, rfl⟩ rfl rfl

theorem stoppedState_inv {s : State} (hs : s.Inv) (hstream : s.stream = .streaming) : (stoppedState s).Inv :=
  hs.restarted (by rw [hstream]; decide) nofun rfl rfl rfl ⟨rfl, rfl, rfl, rfl, rfl⟩ rfl rfl

/-- What ST.CONFIGURE latches is a latched configuration (R181 to R183). -/
theorem configuredState_latchFits {s : State} (hc : s.cfg.legal = true) (h : channelsLegal s = true) :
    LatchFits (configuredState s) := by
  have hfacts := legal_facts hc
  obtain ⟨-, -, hpos, hmax, hkinds⟩ := channelsLegal_iff.mp h
  have hppr := packetsPerRead_le hc s.rate
  have hpkt := packetSize_le hc (scfgTr s.scfg)
  have hentry {i : Nat} (hi : i < 16) : tableEntry (configuredState s).acttab i =
      if i < (scfgNch s.scfg).toNat then tableEntry s.chtab i else 0 := tableEntry_latchTable _ _ hi
  have hpprR : (configuredState s).pprR.toNat = packetsPerRead s.cfg s.rate :=
    (BitVec.toNat_ofNat _ 8).trans (Nat.mod_eq_of_lt (by omega))
  refine ⟨hpos, hmax, fun i hi => ?_, fun i hi => ?_, ?_,
    (BitVec.toNat_ofNat _ 8).trans (Nat.mod_eq_of_lt (by omega))⟩
  · by_cases h16 : i < 16
    · have hi' : (scfgNch s.scfg).toNat ≤ i := hi
      rw [hentry h16, if_neg (Nat.not_lt.mpr hi')]
    · exact tableEntry_beyond (by omega)
  · have hi' : i < (scfgNch s.scfg).toNat := hi
    rw [hentry (by omega), if_pos hi', entryKind_eq, ← windowEntry_eq (by omega) (by omega)]
    exact hkinds i hi'
  · rw [hpprR, packetsPerRead]
    split
    · exact .inr rfl
    · exact .inl rfl

theorem configuredState_inv {s : State} (hs : s.Inv) (h : channelsLegal s = true) : (configuredState s).Inv := by
  obtain ⟨hlegal, -⟩ := hs.legal_rbuf
  have hstream : (configuredState s).stream ≠ .idle := by
    rw [configuredState, State.setCode_stream, State.setStream_stream]
    decide
  exact hs.of_parts rfl rfl hs.memoryFits ((latchLegal_iff hstream).mpr (configuredState_latchFits hlegal h))
    (leftoverFits_of_empty rfl rfl)

/-- A block that is emitted moves SLOT round robin and stores within the windows (R191). -/
theorem emittedState_inv {s : State} (ps : List (List Byte)) (d : Nat) (hs : s.Inv) (hstream : s.stream = .streaming) :
    (emittedState ps d s).Inv := by
  have hidle : s.stream ≠ .idle := by rw [hstream]; decide
  obtain ⟨hlegal, -⟩ := hs.legal_rbuf
  obtain ⟨hpos, h16⟩ := hs.anch_bounds hidle
  obtain ⟨hrbuf, hatr, -, hslot⟩ := hs.leftoverFits
  have hlatch : SameLatch s (emittedState ps d s) := by simp [SameLatch]
  have hcfg : (emittedState ps d s).cfg = s.cfg := emittedState_cfg ps d s
  have hstream' : (emittedState ps d s).stream = s.stream := emittedState_stream ps d s
  have hslot' : (slotAfter s s.slot (blockSamples s.cfg ps).length).toNat < s.anch.toNat := by
    rw [slotAfter_toNat h16 hpos _ _ (by omega)]
    exact Nat.mod_lt _ hpos
  refine hs.of_parts hcfg (emittedState_chtab ps d s) ?_ ?_ ?_
  · rw [emittedState_mem]
    exact blockMemory_fits hlegal _ _ hs.memoryFits
  · rw [latchLegal_congr hcfg hstream' hlatch]
    exact hs.latchLegal
  · unfold LeftoverFits
    rw [hcfg, hstream', emittedState_rbuf, emittedState_atr, emittedState_slot, emittedState_anch]
    exact ⟨hrbuf, hatr, .inl hstream, by omega⟩

theorem pendingState_inv {s : State} (d : Nat) (hs : s.Inv) : (pendingState d s).Inv :=
  SameInvFields.inv (by simp [SameInvFields, SameLatch, SameLeftover]) hs

theorem afterTrunc_inv {s : State} (m : Nat) (hs : s.Inv) : (afterTrunc s m).Inv :=
  SameInvFields.inv (by simp [SameInvFields, SameLatch, SameLeftover]) hs

/-- In STREAMING on the network transport, RBUF may hold anything that fits (R45, R46). -/
theorem afterAppend_inv {s : State} {b : List Byte} (hs : s.Inv) (hstream : s.stream = .streaming) (hatr : s.atr = true)
    (hb : b.length ≤ s.cfg.rbufCap) : (afterAppend s b).Inv := by
  obtain ⟨-, -, -, hslot⟩ := hs.leftoverFits
  have hlatch : latchLegal (afterAppend s b) = latchLegal s := latchLegal_congr rfl rfl ⟨rfl, rfl, rfl, rfl, rfl⟩
  exact hs.of_parts rfl rfl hs.memoryFits (hlatch.trans hs.latchLegal) ⟨hb, .inl hatr, .inl hstream, hslot⟩

theorem LocalRead.inv {m : Nat} {s t : State} (h : LocalRead m s t) (hs : s.Inv) (hstream : s.stream = .streaming) :
    t.Inv := by
  obtain ⟨-, ⟨-, rfl⟩ | ⟨-, rfl⟩⟩ := h
  · exact pendingState_inv _ (afterTrunc_inv m hs)
  · exact emittedState_inv _ _ (afterTrunc_inv m hs) ((afterTrunc_stream s m).trans hstream)

@[simp] theorem appended_length (s : State) (m : Nat) : (appended s m).length = s.rbuf.length + m := by
  simp [appended, inbufBytes]

theorem NetRead.inv {m : Nat} {f : Bool} {s t : State} (h : NetRead m f s t) (hs : s.Inv)
    (hstream : s.stream = .streaming) (hatr : s.atr = true) : t.Inv := by
  obtain ⟨hcap, ⟨-, rfl⟩ | ⟨n, -, rfl⟩⟩ := h
  · exact pendingState_inv _ (afterAppend_inv hs hstream hatr (by rwa [appended_length]))
  · refine emittedState_inv _ _ (afterAppend_inv hs hstream hatr ?_) hstream
    rw [List.length_drop, appended_length]
    omega

theorem Completes.inv {s t : State} {i : Instr} (h : Completes s t i) (hs : s.Inv) : t.Inv := by
  cases i with
  | ckEncode l x =>
      obtain ⟨hl, rfl⟩ := h
      exact encodedState_inv hs hl
  | ckDecode l x k =>
      obtain ⟨i, c, -, rfl⟩ := h
      exact (sameInvFields_judged s l x i c).inv hs
  | stConfigure =>
      obtain ⟨-, hlegal, rfl⟩ := h
      exact configuredState_inv hs hlegal
  | stStart =>
      obtain ⟨hstream, rfl⟩ := h
      exact startedState_inv hs hstream
  | stStop =>
      obtain ⟨hstream, rfl⟩ := h
      exact stoppedState_inv hs hstream
  | stNextblk m f =>
      obtain ⟨hstream, -, ⟨hatr, h⟩ | ⟨-, h⟩⟩ := h
      · exact h.inv hs hstream hatr
      · exact h.inv hs hstream
  | cvAin | cvTemp | cvDac =>
      obtain ⟨v, w, rfl⟩ := h
      exact SameInvFields.inv ⟨rfl, rfl, rfl, ⟨rfl, rfl, rfl, rfl, rfl⟩, rfl, rfl, rfl⟩ hs

theorem exec_inv {i : Instr} {s t : State} (h : exec i s = .next t) (hs : s.Inv) : t.Inv := by
  rcases exec_raises_or_completes h with ⟨c, -, rfl⟩ | hdone
  · exact (sameInvFields_setCode s c).inv hs
  · exact hdone.inv hs

/-! ### Every bus event keeps the invariant -/

theorem issue_inv {w : Word} {s t : State} (h : issue w s = .next t) (hs : s.Inv) : t.Inv := by
  have hop : (s.setOp w).Inv := SameInvFields.inv ⟨rfl, rfl, rfl, ⟨rfl, rfl, rfl, rfl, rfl⟩, rfl, rfl, rfl⟩ hs
  rcases issue_cases w s with ⟨i, -, he⟩ | ⟨_, -, he⟩
  · exact exec_inv (he.symm.trans h) hop
  · cases he.symm.trans h
    exact (sameInvFields_setCode _ _).inv hop

/-- A CHTAB byte that exists is one of an entry below MAX_CH (R35, R61). -/
theorem chtab_index_lt {c : Config} {off : Nat} (h : regionOf c off = .chtab) : (off - 0x40) / 2 < c.maxCh := by
  obtain ⟨hlo, hhi⟩ := regionOf_range h (by decide)
  simp only [regionRange] at hlo hhi
  rw [regionOf, if_neg (by omega), if_pos (by omega)] at h
  obtain ⟨-, hsize⟩ := regionWithin_eq_of_ne h (by decide)
  omega

/-- The host writes no reserved slot entry, and stores bytes only where they exist (R35, R61). -/
theorem putByte_inv {s : State} (off : Nat) (b : Byte) (hs : s.Inv) : (putByte s off b).Inv := by
  have hstore (h : inByteWindow s.cfg off = true) : (s.store off [b]).Inv := by
    refine hs.of_parts rfl rfl (hs.memoryFits.store fun i hi => ?_) ?_ hs.leftoverFits
    · rw [List.length_singleton, Nat.lt_one_iff] at hi
      rwa [hi, Nat.add_zero]
    · exact (latchLegal_congr rfl rfl ⟨rfl, rfl, rfl, rfl, rfl⟩).trans hs.latchLegal
  cases hr : regionOf s.cfg off with
  | chtab =>
      have hindex := chtab_index_lt hr
      have hrange := regionOf_range hr (by decide)
      simp only [regionRange] at hrange
      obtain ⟨hlegal, hmem, hch, hlatch, hleftover⟩ := State.inv_iff.mp hs
      have hch' : tableZeroFrom (putByte s off b).chtab s.cfg.maxCh = true := by
        refine tableZeroFrom_iff.mpr fun i hi => ?_
        rw [putByte_chtab b hr, tableEntry_setIfInBounds _ (by omega), if_neg (by omega)]
        exact tableZeroFrom_iff.mp hch i hi
      refine State.inv_iff.mpr ?_
      rw [putByte, hr] at hch' ⊢
      exact ⟨hlegal, hmem, hch', hlatch, hleftover⟩
  | calram =>
      rw [putByte, hr]
      exact SameInvFields.inv ⟨rfl, rfl, rfl, ⟨rfl, rfl, rfl, rfl, rfl⟩, rfl, rfl, rfl⟩ hs
  | fbuf =>
      rw [putByte, hr]
      exact hstore (inByteWindow_of_region (.inl hr))
  | inbuf =>
      rw [putByte, hr]
      exact hstore (inByteWindow_of_region (.inr (.inl hr)))
  | control | rawout | outval | reserved => rwa [putByte, hr]

theorem putBytes_inv : ∀ (bs : List Byte) {s : State} (off : Nat), s.Inv → (putBytes s off bs).Inv
  | [], _, _, hs => hs
  | b :: bs, _, off, hs => putBytes_inv bs (off + 1) (putByte_inv off b hs)

theorem windowWrite_inv {s : State} (off n : Nat) (v : Word) (hs : s.Inv) : (windowWrite s off n v).Inv := by
  unfold windowWrite
  split
  · rw [writeControl_eq]
    exact SameInvFields.inv ⟨rfl, rfl, rfl, ⟨rfl, rfl, rfl, rfl, rfl⟩, rfl, rfl, rfl⟩ hs
  · exact putBytes_inv _ off hs

theorem answered_inv {s : State} (r : Reply) (hs : s.Inv) : (s.answered r).Inv :=
  SameInvFields.inv ⟨rfl, rfl, rfl, ⟨rfl, rfl, rfl, rfl, rfl⟩, rfl, rfl, rfl⟩ hs

theorem hostWrite_inv {n addr : Nat} {v : Word} {s t : State} (h : hostWrite n addr v s = .next t) (hs : s.Inv) :
    t.Inv := by
  cases ha : accessOffset s.cfg n addr with
  | none =>
      cases (hostWrite_refused ha).symm.trans h
      exact answered_inv _ hs
  | some off =>
      by_cases hop : off = 0
      · subst hop
        exact issue_inv ((hostWrite_op ha).symm.trans h) (answered_inv .ack hs)
      · cases (hostWrite_of_ne_op ha hop).symm.trans h
        exact answered_inv _ (windowWrite_inv off n v hs)

/-- The reset state meets the invariant for every legal configuration (R53). -/
theorem resetOf_inv {c : Config} (hc : c.legal = true) : (State.resetOf c).Inv := by
  have hzero (n : Nat) : tableZeroFrom (Vector.replicate 16 0) n = true :=
    tableZeroFrom_iff.mpr fun i _ => tableEntry_replicate_zero i
  refine State.inv_iff.mpr ⟨hc, rfl, hzero _, ?_, leftoverLegal_iff.mpr (leftoverFits_of_empty rfl rfl)⟩
  have hacttab : tableZeroFrom (State.resetOf c).acttab 0 = true := hzero 0
  have hidle : (State.resetOf c).stream = .idle := rfl
  rw [latchLegal, if_pos hidle, hacttab]
  rfl

/-- Settles O58. -/
theorem resetMeetsTheInvariant : Obligations.ResetMeetsTheInvariant :=
  ⟨fun _ hc => resetOf_inv hc, resetOf_inv (by decide)⟩

/-- Settles O57, event by event: an operation keeps the invariant by how it ends, a host write byte by byte, and a reset
restores a state that meets it. -/
theorem everyStepKeepsTheInvariant : Obligations.EveryStepKeepsTheInvariant := by
  intro s t hs h
  rcases step_cases s with ⟨_, he⟩ | ⟨_, _, he⟩ | ⟨hlegal, ev, rest, _, he⟩
  · cases he.symm.trans h
  · cases he.symm.trans h
    exact hs
  · have hbus : (s.setBus rest).Inv :=
      SameInvFields.inv ⟨rfl, rfl, rfl, ⟨rfl, rfl, rfl, rfl, rfl⟩, rfl, rfl, rfl⟩ hs
    rw [he] at h
    cases ev with
    | read n addr =>
        rw [hostRead_frame h]
        exact SameInvFields.inv ⟨rfl, rfl, rfl, ⟨rfl, rfl, rfl, rfl, rfl⟩, rfl, rfl, rfl⟩ hbus
    | write n addr v => exact hostWrite_inv h hbus
    | reset =>
        cases h
        exact SameInvFields.inv ⟨rfl, rfl, rfl, ⟨rfl, rfl, rfl, rfl, rfl⟩, rfl, rfl, rfl⟩ (resetOf_inv hlegal)

end Sys2Proof.Machine

/-! ## Reads of the stream, whole (`42_stream.md` R187 to R203) -/

namespace Sys2Proof.Machine

/-! ### Refusals, garbage and the conversion of a sample (R187, R188, R193, R196) -/

/-- Settles O44. -/
theorem nextblkRefusesLongReads : Obligations.NextblkRefusesLongReads := by
  intro s m f hs hlong
  rcases execStNextblk_cases m f s with ⟨hne, _⟩ | ⟨_, _, he⟩ | ⟨_, hm, hatr, _⟩ | ⟨_, hm, _, he⟩
  · exact absurd hs hne
  · exact he
  · rcases hlong with hlong | ⟨hlocal, _⟩
    · omega
    · cases hlocal.symm.trans hatr
  · have hppr : s.pprR.toNat * s.pktR.toNat < m := by
      rcases hlong with hlong | ⟨_, hlong⟩ <;> omega
    exact he.trans (if_pos hppr)

/-- A byte of a list that is long enough, read with a default. -/
theorem getD_eq_iff {bs : List Byte} {i : Nat} {b : Byte} (h : i < bs.length) : bs.getD i 0 = b ↔ bs[i]? = some b := by
  rw [List.getD_eq_getElem _ _ h, List.getElem?_eq_getElem h, Option.some.injEq]

/-- Settles O40: every byte that the test reads lies within the packet (R8). -/
theorem garbageIsMarkedAndAllZero : Obligations.GarbageIsMarkedAndAllZero := by
  intro c p hc hp
  have hfacts := legal_facts hc
  have hsample {i : Nat} (hi : i < 2 * c.spp) : p.getD (c.offSamples + i) 0 = 0 ↔ p[c.offSamples + i]? = some 0 :=
    getD_eq_iff (by omega)
  rw [garbage, Bool.and_eq_true, beq_iff_eq, getD_eq_iff (by omega), List.all_eq_true]
  refine and_congr_right fun _ => ⟨fun h i hi => ?_, fun h i hi => ?_⟩
  · exact (hsample hi).mp (beq_iff_eq.mp (h i (List.mem_range.mpr hi)))
  · have hi := List.mem_range.mp hi
    exact beq_iff_eq.mpr ((hsample hi).mpr (h i hi))

theorem entryGain_eq (e : SlotEntry) : entryGain e = e.toNat % 16 := by
  simp [entryGain]

theorem entryRes_eq (e : SlotEntry) : entryRes e = e.toNat / 16 % 32 := by
  simp [entryRes, Nat.shiftRight_eq_div_pow]

/-- Settles O41, kind by kind. -/
theorem sampleConversionFollowsKind : Obligations.SampleConversionFollowsKind := by
  intro s e raw
  have he := e.isLt
  have hkind {k : Nat} (h : e.toNat / 512 = k) : entryKind e = k := by rw [entryKind_eq]; omega
  refine ⟨fun h => ?_, fun h => ?_, fun h => ?_⟩
  · simp only [conv, hkind h, entryGain_eq, entryRes_eq]
  · simp only [conv, hkind h]
  · simp only [conv, hkind h]

/-! ### The state that a read ends from -/

/-- `s` with another RBUF and TRUNC and another count of draws: what a read notes before it ends. -/
def State.withNotes (s : State) (rb : List Byte) (tr : Bool) (n : Nat) : State :=
  { s with rbuf := rb, trunc := tr, draws := n }

theorem afterTrunc_eq_withNotes (s : State) (m : Nat) :
    afterTrunc s m = s.withNotes s.rbuf (s.trunc || decide (m % s.pktR.toNat ≠ 0)) (s.draws + 1) := by
  unfold afterTrunc
  by_cases h : m % s.pktR.toNat = 0
  · rw [if_neg (not_not.mpr h), decide_eq_false (not_not.mpr h), Bool.or_false]
    rfl
  · rw [if_pos h, decide_eq_true h, Bool.or_true]
    rfl

/-- The updates that end a PENDING read, as one. -/
theorem pending_updates (s : State) (a b c d : Word) (k : Code) :
    (s.setResults a b c d).setCode k = { s with code := k, res0 := a, res1 := b, res2 := c, res3 := d } := rfl

/-- The updates that end an emitted block, as one. -/
theorem emit_updates (s : State) (m : Memory) (v : BitVec 4) (a b c d : Word) (k : Code) :
    (((s.setMem m).setSlot v).setResults a b c d).setCode k =
      { s with code := k, res0 := a, res1 := b, res2 := c, res3 := d, mem := m, slot := v } := rfl

/-- A PENDING read, whatever it notes (R197). -/
theorem pendingState_withNotes (d : Nat) (s : State) (rb : List Byte) (tr : Bool) (n : Nat) :
    PendingAfter d s (pendingState d (s.withNotes rb tr n)) := by
  unfold PendingAfter pendingState
  rw [pending_updates]
  rfl

/-- An emitted block writes CODE, the results, memory and SLOT. -/
theorem emittedState_frame (ps : List (List Byte)) (d : Nat) (s : State) :
    emittedState ps d s =
      { s with code := (emittedState ps d s).code, res0 := (emittedState ps d s).res0,
               res1 := (emittedState ps d s).res1, res2 := (emittedState ps d s).res2,
               res3 := (emittedState ps d s).res3, mem := (emittedState ps d s).mem,
               slot := (emittedState ps d s).slot } := by
  unfold emittedState State.setBlockResults
  rw [emit_updates]

/-- What is emitted does not depend on RBUF, TRUNC and the count of draws. -/
theorem Emitted.of_withNotes {ps : List (List Byte)} {d : Nat} {s t : State} {rb : List Byte} {tr : Bool} {n : Nat}
    (h : Emitted ps d (s.withNotes rb tr n) t) : Emitted ps d s t := by
  obtain ⟨hcode, hres0, hres1, hres2, hres3, hslot, hraw, hval, hwindow, hframe⟩ := h
  refine ⟨hcode, hres0, hres1, hres2, hres3, hslot, hraw, hval, fun off hoff hout => ?_, hframe⟩
  rw [hwindow off hoff hout]
  exact windowByte_congr hoff rfl rfl rfl rfl

/-! ### An emitted block in the window (R191 to R195) -/

section
variable {s : State} {ps : List (List Byte)}

/-- A block leaves the rest of the window. -/
theorem emitted_sameWindow (hwhole : ∀ p ∈ ps, p.length = s.pktR.toNat) (d : Nat) :
    SameWindowExcept [(0xC00, ps.length * s.pktR.toNat), (0x1000, 8 * (ps.length * s.cfg.spp))] s
      (emittedState ps d s) := by
  intro off hoff hout
  have hraw := hout (0xC00, ps.length * s.pktR.toNat) (by simp)
  have hval := hout (0x1000, 8 * (ps.length * s.cfg.spp)) (by simp)
  dsimp only at hraw hval
  have hlen : ps.flatten.length = ps.length * s.pktR.toNat := flatten_length_of_whole hwhole
  have hvals : (blockValues s ps).length = ps.length * s.cfg.spp := by
    rw [blockValues, convSamples_length, blockSamples_length]
  refine windowByte_congr hoff (emittedState_cfg ps d s) (emittedState_chtab ps d s) (emittedState_calram ps d s) ?_
  rw [emittedState_mem, memoryGet_blockMemory, if_neg (by omega), if_neg (by omega)]

variable (hs : s.Inv) (hstream : s.stream = .streaming)
include hs hstream

/-- Value `k` of the block (R191 to R193). -/
theorem blockValues_getElem? {k : Nat} (hk : k < ps.length * s.cfg.spp) :
    (blockValues s ps)[k]? = some (blockValue s ps k) := by
  obtain ⟨hpos, h16⟩ := hs.anch_bounds (by rw [hstream]; decide)
  obtain ⟨-, -, -, hslot⟩ := hs.leftoverFits
  rw [blockValues, convSamples_getElem? h16 hpos _ _ _ (by omega), blockSamples_getElem? _ _ _ hk]
  rfl

variable (hppr : ps.length ≤ s.pprR.toNat)
include hppr

/-- At most PPR packets fit RAWOUT, and their samples OUTVAL (R8). -/
theorem block_fits : ps.length * s.pktR.toNat ≤ s.cfg.rawoutSize ∧ ps.length * s.cfg.spp ≤ s.cfg.outvalN := by
  have hidle : s.stream ≠ .idle := by rw [hstream]; decide
  obtain ⟨hlegal, -⟩ := hs.legal_rbuf
  obtain ⟨hlatched, -⟩ := hs.latch hidle
  have hbatch := hs.batch_le hidle
  have hfacts := legal_facts hlegal
  have hraw : ps.length * s.pktR.toNat ≤ s.pprR.toNat * s.pktR.toNat := Nat.mul_le_mul_right _ hppr
  have hval : ps.length * s.cfg.spp ≤ s.cfg.pprHi * s.cfg.spp := Nat.mul_le_mul_right _ (by omega)
  omega

/-- The values stand in OUTVAL (R44, R191). -/
theorem windowHolds_emitted_value (d : Nat) {k : Nat} (hk : k < ps.length * s.cfg.spp) :
    windowHolds (emittedState ps d s) (0x1000 + 8 * k) (leBytes 8 (blockValue s ps k).toNat) = true := by
  obtain ⟨-, hfits⟩ := block_fits hs hstream hppr
  obtain ⟨hlegal, -⟩ := hs.legal_rbuf
  have hcfg : (emittedState ps d s).cfg = s.cfg := emittedState_cfg ps d s
  have hlen : (blockValues s ps).length = ps.length * s.cfg.spp := by
    rw [blockValues, convSamples_length, blockSamples_length]
  refine windowHolds_iff.mpr fun i hi => ?_
  rw [leBytes_length] at hi
  rw [Nat.add_assoc, windowByte_outval (hcfg.symm ▸ hlegal) (by rw [hcfg]; omega), emittedState_mem,
    memoryGet_blockMemory, if_pos (by omega), Nat.add_sub_cancel_left]
  exact valueBytes_getElem? _ k i _ hi (blockValues_getElem? hs hstream hk)

variable (hwhole : ∀ p ∈ ps, p.length = s.pktR.toNat)
include hwhole

/-- The packets stand in RAWOUT (R43, R191). -/
theorem windowHolds_emitted_packets (d : Nat) : windowHolds (emittedState ps d s) 0xC00 ps.flatten = true := by
  obtain ⟨hfits, -⟩ := block_fits hs hstream hppr
  obtain ⟨hlegal, -⟩ := hs.legal_rbuf
  have hfacts := legal_facts hlegal
  have hcfg : (emittedState ps d s).cfg = s.cfg := emittedState_cfg ps d s
  have hlen : ps.flatten.length = ps.length * s.pktR.toNat := flatten_length_of_whole hwhole
  refine windowHolds_iff.mpr fun i hi => ?_
  rw [windowByte_rawout (hcfg.symm ▸ hlegal) (by rw [hcfg]; omega), emittedState_mem, memoryGet_blockMemory,
    if_neg (by omega), if_pos (by omega), Nat.add_sub_cancel_left]

/-- A block of at most PPR whole packets, as the statements describe it. -/
theorem emittedState_emitted (d : Nat) : Emitted ps d s (emittedState ps d s) := by
  obtain ⟨hpos, h16⟩ := hs.anch_bounds (by rw [hstream]; decide)
  obtain ⟨-, -, -, hslot⟩ := hs.leftoverFits
  refine ⟨emittedState_code ps d s, emittedState_res0 ps d s, emittedState_res1 ps d s, ?_, emittedState_res3 ps d s, ?_,
    windowHolds_emitted_packets hs hstream hppr hwhole d, fun k hk => windowHolds_emitted_value hs hstream hppr d hk,
    emitted_sameWindow hwhole d, ?_⟩
  · rw [emittedState_res2]
    cases ps <;> rfl
  · rw [emittedState_slot, slotAfter_toNat h16 hpos _ _ (by omega), blockSamples_length]
  · rw [emittedState_frame]

end

/-! ### Packets and paths -/

/-- The packets of the statements are those that the model cuts (R190). -/
theorem packets_eq_firstPackets (pkt n : Nat) (bs : List Byte) : packets pkt n bs = firstPackets pkt n bs := by
  refine List.ext_getElem? fun k => ?_
  rw [packets_getElem?]
  by_cases hk : k < n
  · rw [if_pos hk]
    simp [firstPackets, packetAt, hk]
  · rw [if_neg hk]
    simp [firstPackets, hk]

/-- The packet size that is latched outside IDLE is positive (R8). -/
theorem State.Inv.pktR_pos {s : State} (hs : s.Inv) (hstream : s.stream ≠ .idle) : 0 < s.pktR.toNat := by
  obtain ⟨hlegal, -⟩ := hs.legal_rbuf
  obtain ⟨-, hpkt⟩ := hs.latch hstream
  have hlocal := pktLocal_pos hlegal
  have hfacts := legal_facts hlegal
  rw [hpkt, packetSize]
  split <;> omega

/-- A legal configuration reads at least one packet (R8). -/
theorem State.Inv.pprR_pos {s : State} (hs : s.Inv) (hstream : s.stream ≠ .idle) : 0 < s.pprR.toNat := by
  obtain ⟨hlegal, -⟩ := hs.legal_rbuf
  obtain ⟨hppr, -⟩ := hs.latch hstream
  have hfacts := legal_facts hlegal
  omega

theorem withNotes_inv_of_local {s : State} (hs : s.Inv) (tr : Bool) (n : Nat) : (s.withNotes s.rbuf tr n).Inv :=
  SameInvFields.inv ⟨rfl, rfl, rfl, ⟨rfl, rfl, rfl, rfl, rfl⟩, rfl, rfl, rfl⟩ hs

/-! ### The local path (R188, R196) -/

/-- Settles O42: the bytes read are the input's, so the packets cut are the statement's, and the path ends in one of its
two ways. -/
theorem nextblkLocalEmitsUsablePackets : Obligations.NextblkLocalEmitsUsablePackets := by
  intro s f input hs hstream hatr hm hppr hholds n usable
  have hidle : s.stream ≠ .idle := by rw [hstream]; decide
  obtain ⟨hlegal, -⟩ := hs.legal_rbuf
  obtain ⟨-, hrbuf, -, -⟩ := hs.leftoverFits
  have hempty : s.rbuf = [] := hrbuf.resolve_left (by rw [hatr]; decide)
  have hpkt := hs.pktR_pos hidle
  have husable : usablePackets s input.length = usable := by
    rw [usablePackets, inbufBytes_of_window hlegal _ hm hholds, packets_eq_firstPackets]
  have hpath := execStNextblk_local f hstream hatr hm
  have htrunc := afterTrunc_eq_withNotes s input.length
  rcases nextblkLocal_cases input.length s with ⟨hlong, -⟩ | ⟨-, hnone, he⟩ | ⟨-, hsome, he⟩
  · omega
  · refine ⟨_, hpath.trans he, ?_, ?_, fun _ => ?_, fun hne => absurd (husable ▸ hnone) hne⟩
    · rw [pendingState_rbuf, afterTrunc_rbuf, hempty]
    · rw [pendingState_trunc, afterTrunc_trunc]
    · rw [htrunc]
      exact pendingState_withNotes n s _ _ _
  · rw [husable] at he hsome
    refine ⟨_, hpath.trans he, ?_, ?_, fun hnone => absurd hnone hsome, fun _ => ?_⟩
    · rw [emittedState_rbuf, afterTrunc_rbuf, hempty]
    · rw [emittedState_trunc, afterTrunc_trunc]
    · have hcount : usable.length ≤ n := (List.length_filter_le _ _).trans (by simp [firstPackets])
      have hbatch : n ≤ s.pprR.toNat := Nat.div_le_of_le_mul (by rwa [Nat.mul_comm] at hppr)
      have hwhole : ∀ p ∈ usable, p.length = s.pktR.toNat := fun p hp => by
        have hcut := List.mem_of_mem_filter hp
        rw [← packets_eq_firstPackets] at hcut
        exact packets_whole _ _ _ (Nat.div_mul_le_self _ _) p hcut
      have hinv := withNotes_inv_of_local hs (s.trunc || decide (input.length % s.pktR.toNat ≠ 0)) (s.draws + 1)
      rw [htrunc]
      exact Emitted.of_withNotes (emittedState_emitted hinv hstream (hcount.trans hbatch) hwhole _)

/-! ### The network path (R189, R200) -/

/-- How many packets a read emits when it leaves `len` bytes in RBUF: none is 0 (R189, R200). -/
def emittedCount (ppr pkt len : Nat) (f : Bool) : Nat := if ppr * pkt ≤ len then ppr else if f then len / pkt else 0

theorem netPackets_eq {ppr pkt len : Nat} {f : Bool} (hppr : 0 < ppr) (hpkt : 0 < pkt) :
    netPackets ppr pkt len f = if emittedCount ppr pkt len f = 0 then none else some (emittedCount ppr pkt len f) := by
  unfold netPackets emittedCount
  by_cases hbatch : ppr * pkt ≤ len
  · rw [if_pos hbatch, if_pos hbatch, if_neg (by omega)]
  · rw [if_neg hbatch, if_neg hbatch]
    cases f with
    | false => simp
    | true =>
        by_cases hheld : pkt ≤ len
        · have hcount : len / pkt ≠ 0 := (Nat.div_pos hheld hpkt).ne'
          simp [hheld, hcount]
        · simp [hheld, Nat.div_eq_of_lt (Nat.lt_of_not_le hheld)]

/-- A block is at most a full batch, and at most what is held. -/
theorem emittedCount_le (ppr pkt len : Nat) (f : Bool) :
    emittedCount ppr pkt len f ≤ ppr ∧ emittedCount ppr pkt len f * pkt ≤ len := by
  unfold emittedCount
  by_cases hbatch : ppr * pkt ≤ len
  · rw [if_pos hbatch]
    exact ⟨le_rfl, hbatch⟩
  · rw [if_neg hbatch]
    cases f with
    | false => simp
    | true => exact ⟨(Nat.div_lt_of_lt_mul (by rw [Nat.mul_comm]; omega)).le, Nat.div_mul_le_self len pkt⟩

/-- Settles O43: the bytes read are the input's, and the path emits `emittedCount` packets of what is then held. -/
theorem nextblkNetReassemblesPackets : Obligations.NextblkNetReassemblesPackets := by
  intro s f input hs hstream hatr hm hcap hholds pkt buf n
  have hidle : s.stream ≠ .idle := by rw [hstream]; decide
  obtain ⟨hlegal, -⟩ := hs.legal_rbuf
  have hpkt : 0 < pkt := hs.pktR_pos hidle
  have hbuf : appended s input.length = buf := by
    rw [appended, inbufBytes_of_window hlegal _ hm hholds]
  have hlen : buf.length = s.rbuf.length + input.length := List.length_append
  have hn : netPackets s.pprR.toNat s.pktR.toNat (s.rbuf.length + input.length) f = if n = 0 then none else some n := by
    rw [← hlen]
    exact netPackets_eq (hs.pprR_pos hidle) hpkt
  obtain ⟨hbatch, hheld⟩ : n ≤ s.pprR.toNat ∧ n * pkt ≤ buf.length := emittedCount_le _ _ _ _
  have hpath := execStNextblk_net f hstream hatr hm
  rcases nextblkNet_cases input.length f s with ⟨hover, -⟩ | ⟨-, hnone, he⟩ | ⟨-, n', hn', he⟩
  · omega
  · have hzero : n = 0 := by
      by_contra hne
      cases (hn.trans (if_neg hne)).symm.trans hnone
    refine ⟨_, hpath.trans he, ?_, ?_, fun _ => ?_, fun hne => absurd hzero hne⟩
    · exact pendingState_trunc _ _
    · rw [pendingState_rbuf, hzero, Nat.zero_mul, List.drop_zero, hbuf]
      rfl
    · exact pendingState_withNotes 0 s _ _ _
  · obtain ⟨hne, rfl⟩ : n ≠ 0 ∧ n = n' := by
      by_cases hzero : n = 0
      · cases (hn.trans (if_pos hzero)).symm.trans hn'
      · exact ⟨hzero, Option.some.inj ((hn.trans (if_neg hzero)).symm.trans hn')⟩
    rw [hbuf] at he
    refine ⟨_, hpath.trans he, ?_, ?_, fun hzero => absurd hzero hne, fun _ => ?_⟩
    · exact emittedState_trunc _ _ _
    · exact emittedState_rbuf _ _ _
    · have hinv : (s.withNotes (buf.drop (n * pkt)) s.trunc (s.draws + 1)).Inv :=
        afterAppend_inv (b := buf.drop (n * pkt)) hs hstream hatr (by rw [List.length_drop]; omega)
      rw [← packets_eq_firstPackets]
      exact Emitted.of_withNotes
        (emittedState_emitted hinv hstream (by rwa [packets_length]) (packets_whole _ _ _ hheld) 0)

/-! ### Every read completes (R187, R201) -/

/-- `t` is `s` but for what a read writes (R201). -/
def EqualButRead (s t : State) : Prop :=
  t = { s with code := t.code, trunc := t.trunc, res0 := t.res0, res1 := t.res1, res2 := t.res2, res3 := t.res3,
               mem := t.mem, rbuf := t.rbuf, slot := t.slot, draws := t.draws }

/-- What a read that completes may change: PENDING keeps memory and SLOT, and a block is stored from RAWOUT on. -/
def ReadFrame (s t : State) : Prop :=
  EqualButRead s t ∧ (∀ off, off < 0xC00 → memoryGet t.mem off = memoryGet s.mem off) ∧
  (t.code = .pending → t.mem = s.mem ∧ t.slot = s.slot)

theorem pendingState_readFrame (d : Nat) (s : State) (rb : List Byte) (tr : Bool) (n : Nat) :
    ReadFrame s (pendingState d (s.withNotes rb tr n)) := by
  have hpending := pendingState_withNotes d s rb tr n
  unfold PendingAfter at hpending
  rw [hpending]
  exact ⟨rfl, fun _ _ => rfl, fun _ => ⟨rfl, rfl⟩⟩

theorem emittedState_readFrame (ps : List (List Byte)) (d : Nat) (s : State) (rb : List Byte) (tr : Bool) (n : Nat) :
    ReadFrame s (emittedState ps d (s.withNotes rb tr n)) := by
  refine ⟨?_, fun off hoff => ?_, fun hpending => ?_⟩
  · unfold EqualButRead
    rw [emittedState_frame]
    rfl
  · rw [emittedState_mem, memoryGet_blockMemory_other _ _ _ _ hoff]
    rfl
  · rw [emittedState_code] at hpending
    cases hpending

theorem LocalRead.readFrame {m : Nat} {s t : State} (h : LocalRead m s t) : ReadFrame s t := by
  have htrunc := afterTrunc_eq_withNotes s m
  obtain ⟨-, ⟨-, rfl⟩ | ⟨-, rfl⟩⟩ := h <;> rw [htrunc]
  · exact pendingState_readFrame _ _ _ _ _
  · exact emittedState_readFrame _ _ _ _ _ _

theorem NetRead.readFrame {m : Nat} {f : Bool} {s t : State} (h : NetRead m f s t) : ReadFrame s t := by
  obtain ⟨-, ⟨-, rfl⟩ | ⟨n, -, rfl⟩⟩ := h
  · exact pendingState_readFrame _ _ _ _ _
  · exact emittedState_readFrame _ _ _ _ _ _

/-- What a read leaves of the window: below RAWOUT memory is kept, and beyond OUTVAL there is none. -/
theorem ReadFrame.sameWindow {s t : State} (h : ReadFrame s t) :
    SameWindowExcept [(0xC00, 0x400), (0x1000, 0x400)] s t := by
  obtain ⟨hframe, hmem, -⟩ := h
  intro off hoff hout
  have hraw := hout (0xC00, 0x400) (by simp)
  have hval := hout (0x1000, 0x400) (by simp)
  by_cases hend : 0x1400 ≤ off
  · rw [windowByte_beyond_outval hend, windowByte_beyond_outval hend]
  · have hcfg : t.cfg = s.cfg := by rw [hframe]
    have hchtab : t.chtab = s.chtab := by rw [hframe]
    have hcalram : t.calram = s.calram := by rw [hframe]
    exact windowByte_congr hoff hcfg hchtab hcalram (hmem off (by omega))

/-- In STREAMING, on an M that the latched path takes, no refusal is left. -/
theorem execStNextblk_reads {s : State} {m : Nat} (f : Bool) (hstream : s.stream = .streaming)
    (hm : m ≤ s.cfg.inbufSize) (hlocal : s.atr = false → m ≤ s.pprR.toNat * s.pktR.toNat)
    (hnet : s.atr = true → s.rbuf.length + m ≤ s.cfg.rbufCap) :
    ∃ t, execStNextblk m f s = .next t ∧ (t.code = .ok ∨ t.code = .pending) ∧ ReadFrame s t := by
  cases hatr : s.atr with
  | true =>
      rcases nextblkNet_ends m f s with ⟨hover, _⟩ | ⟨t, ht, hread⟩
      · exact absurd (hnet hatr) (Nat.not_le.mpr hover)
      · exact ⟨t, (execStNextblk_net f hstream hatr hm).trans ht, hread.code, hread.readFrame⟩
  | false =>
      rcases nextblkLocal_ends m s with ⟨hlong, _⟩ | ⟨t, ht, hread⟩
      · exact absurd (hlocal hatr) (Nat.not_le.mpr hlong)
      · exact ⟨t, (execStNextblk_local f hstream hatr hm).trans ht, hread.code, hread.readFrame⟩

/-- Settles O47. -/
theorem nextblkCompletes : Obligations.NextblkCompletes := by
  intro s m f _ hstream hm hlocal hnet
  obtain ⟨t, ht, hcode, hframe⟩ := execStNextblk_reads f hstream hm hlocal hnet
  have hwindow := hframe.sameWindow
  obtain ⟨hsame, -, hpending⟩ := hframe
  exact ⟨t, ht, hcode, hsame, hwindow, hpending⟩

/-! ### The byte stream (R203) -/

/-- The host places the bytes of a read where the operation reads them (R42). -/
theorem windowHolds_putBytes_inbuf {s : State} {bytes : List Byte} (hc : s.cfg.legal = true)
    (hm : bytes.length ≤ s.cfg.inbufSize) : windowHolds (putBytes s inbufBase bytes) 0x800 bytes = true := by
  have hfacts := legal_facts hc
  refine windowHolds_iff.mpr fun i hi => ?_
  have hregion : regionOf s.cfg (inbufBase + i) = .inbuf := regionOf_inbuf (by omega) (by omega)
  have hbyte := windowByte_putBytes_same bytes s inbufBase (by decide) i bytes[i] (List.getElem?_eq_getElem hi)
  rw [byteAfterWrite, hregion] at hbyte
  rw [List.getElem?_eq_getElem hi]
  exact hbyte

/-- A read of what a block put in RAWOUT gives its packets (R43, R191). -/
theorem drawBytes_rawout {t : State} {bs : List Byte} (hc : t.cfg.legal = true) (d : Nat)
    (hfits : bs.length ≤ t.cfg.rawoutSize) (h : windowHolds t 0xC00 bs = true) :
    drawBytes t d rawoutBase bs.length = bs := by
  refine drawBytes_of_written d fun i hi => ?_
  rw [← windowHolds_iff.mp h i hi, windowByte_rawout hc (by omega)]
  rfl

/-- A delivered read with no error: the block goes on with the stream, and what it put out, then what it holds, is what it
held before, then the bytes read. -/
def Delivers (s t : State) (bytes chunk : List Byte) : Prop :=
  t.Inv ∧ t.stream = .streaming ∧ t.atr = true ∧ t.cfg = s.cfg ∧ t.pktR = s.pktR ∧
  (∃ q, chunk.length = q * s.pktR.toNat) ∧ chunk ++ t.rbuf = s.rbuf ++ bytes

/-- A read that takes `n` packets out of `buf`: PENDING for none (R189). -/
def NetOutcome (n : Nat) (buf : List Byte) (s t : State) : Prop :=
  t.rbuf = buf.drop (n * s.pktR.toNat) ∧ (n = 0 → PendingAfter 0 s t) ∧
  (n ≠ 0 → Emitted (firstPackets s.pktR.toNat n buf) 0 s t)

/-- What a block put in RAWOUT is the packets that it took (R190, R191). -/
theorem drawBytes_of_emitted {s t : State} {n : Nat} {buf : List Byte} (hs : s.Inv) (hstream : s.stream = .streaming)
    (hn : n ≤ s.pprR.toNat) (hheld : n * s.pktR.toNat ≤ buf.length)
    (h : Emitted (firstPackets s.pktR.toNat n buf) 0 s t) :
    drawBytes t t.draws rawoutBase ((t.res0.toNat % 256) * t.pktR.toNat) = buf.take (n * s.pktR.toNat) := by
  obtain ⟨hlegal, -⟩ := hs.legal_rbuf
  have hppr := s.pprR.isLt
  obtain ⟨-, hres0, -, -, -, -, hraw, -, -, hframe⟩ := h
  rw [← packets_eq_firstPackets] at hres0 hraw
  rw [packets_length, Nat.zero_mul, Nat.add_zero] at hres0
  rw [packets_flatten _ _ _ hheld] at hraw
  have hcfg : t.cfg = s.cfg := by rw [hframe]
  have hpkt : t.pktR = s.pktR := by rw [hframe]
  have hcount : t.res0.toNat % 256 = n := by
    rw [hres0, BitVec.toNat_ofNat, Nat.mod_eq_of_lt (by omega), Nat.mod_eq_of_lt (by omega)]
  have hlen : (buf.take (n * s.pktR.toNat)).length = n * s.pktR.toNat := by
    rw [List.length_take, Nat.min_eq_left hheld]
  obtain ⟨hfits, -⟩ := block_fits (ps := packets s.pktR.toNat n buf) hs hstream (by rwa [packets_length])
  rw [packets_length] at hfits
  have hread := drawBytes_rawout (hcfg.symm ▸ hlegal) t.draws (by rw [hcfg, hlen]; exact hfits) hraw
  rw [hlen] at hread
  rwa [hcount, hpkt]

theorem NetOutcome.delivers {s t : State} {n : Nat} {bytes : List Byte} (h : NetOutcome n (s.rbuf ++ bytes) s t)
    (hs : s.Inv) (ht : t.Inv) (hstream : s.stream = .streaming) (hatr : s.atr = true) (hn : n ≤ s.pprR.toNat)
    (hheld : n * s.pktR.toNat ≤ (s.rbuf ++ bytes).length) :
    (t.code = .pending ∧ Delivers s t bytes []) ∨
    (t.code = .ok ∧ Delivers s t bytes (drawBytes t t.draws rawoutBase ((t.res0.toNat % 256) * t.pktR.toNat))) := by
  obtain ⟨hrbuf, hpending, hemitted⟩ := h
  rcases Nat.eq_zero_or_pos n with rfl | hpos
  · have hframe := hpending rfl
    unfold PendingAfter at hframe
    rw [Nat.zero_mul, List.drop_zero] at hrbuf
    refine .inl ⟨by rw [hframe], ht, ?_, ?_, ?_, ?_, ⟨0, by simp⟩, by rw [hrbuf, List.nil_append]⟩ <;> rw [hframe]
    · exact hstream
    · exact hatr
  · have hblock := hemitted (by omega)
    have hchunk := drawBytes_of_emitted hs hstream hn hheld hblock
    obtain ⟨hcode, -, -, -, -, -, -, -, -, hframe⟩ := hblock
    refine .inr ⟨hcode, ht, ?_, ?_, ?_, ?_, ⟨n, ?_⟩, ?_⟩
    · rw [hframe]; exact hstream
    · rw [hframe]; exact hatr
    · rw [hframe]
    · rw [hframe]
    · rw [hchunk, List.length_take, Nat.min_eq_left hheld]
    · rw [hchunk, hrbuf, List.take_append_drop]

/-- A delivered read overflows, or delivers. -/
theorem deliver_cases {s : State} {bytes : List Byte} (f : Bool) (hs : s.Inv) (hstream : s.stream = .streaming)
    (hatr : s.atr = true) (hm : bytes.length ≤ s.cfg.inbufSize) :
    ∃ t, deliver bytes f s = .next t ∧
      (t.code = .overflow ∨ (t.code = .pending ∧ Delivers s t bytes []) ∨
       (t.code = .ok ∧
        Delivers s t bytes (drawBytes t t.draws rawoutBase ((t.res0.toNat % 256) * t.pktR.toNat)))) := by
  obtain ⟨hlegal, -⟩ := hs.legal_rbuf
  have hput := putBytes_equalButWindows bytes s inbufBase
  have hholds := windowHolds_putBytes_inbuf hlegal hm
  have hinv := putBytes_inv bytes inbufBase hs
  unfold deliver
  generalize putBytes s inbufBase bytes = u at hput hholds hinv
  unfold EqualButWindows at hput
  have hustream : u.stream = .streaming := by rw [hput]; exact hstream
  have huatr : u.atr = true := by rw [hput]; exact hatr
  have hum : bytes.length ≤ u.cfg.inbufSize := by rw [hput]; exact hm
  by_cases hcap : u.rbuf.length + bytes.length ≤ u.cfg.rbufCap
  · obtain ⟨t, ht, -, houtcome⟩ := nextblkNetReassemblesPackets u f bytes hinv hustream huatr hum hcap hholds
    obtain ⟨hn, hheld⟩ := emittedCount_le u.pprR.toNat u.pktR.toNat (u.rbuf ++ bytes).length f
    have hdelivers := NetOutcome.delivers houtcome hinv (exec_inv ht hinv) hustream huatr hn hheld
    unfold Delivers at hdelivers ⊢
    rw [hput] at hdelivers
    exact ⟨t, ht, .inr hdelivers⟩
  · exact ⟨u.setCode .overflow, (execStNextblk_net f hustream huatr hum).trans (if_pos (Nat.lt_of_not_le hcap)),
      .inl rfl⟩

/-- Reads from any RBUF: what comes out, then what is held, is what was held before, then the bytes delivered. -/
theorem deliverAll_stream : ∀ (reads : List (List Byte × Bool)) {s t : State} {out : List Byte}, s.Inv →
    s.stream = .streaming → s.atr = true → (∀ r ∈ reads, r.1.length ≤ s.cfg.inbufSize) →
    deliverAll reads s = some (t, out) →
    ∃ q, out.length = q * s.pktR.toNat ∧ out ++ t.rbuf = s.rbuf ++ (reads.map Prod.fst).flatten
  | [], s, t, out, _, _, _, _, h => by
      obtain ⟨rfl, rfl⟩ := Prod.mk.inj (Option.some.inj h)
      exact ⟨0, by simp, by simp⟩
  | (bytes, f) :: reads, s, t, out, hs, hstream, hatr, hm, h => by
      obtain ⟨u, hu, hends⟩ := deliver_cases f hs hstream hatr (hm (bytes, f) (by simp))
      have htail {chunk out' : List Byte} (hdelivers : Delivers s u bytes chunk)
          (hrest : deliverAll reads u = some (t, out')) :
          ∃ q, (chunk ++ out').length = q * s.pktR.toNat ∧
            (chunk ++ out') ++ t.rbuf = s.rbuf ++ (((bytes, f) :: reads).map Prod.fst).flatten := by
        obtain ⟨hinv, hustream, huatr, hcfg, hpkt, ⟨q, hchunk⟩, hbytes⟩ := hdelivers
        obtain ⟨q', hout, hstreamed⟩ := deliverAll_stream reads hinv hustream huatr
          (fun r hr => hcfg ▸ hm r (List.mem_cons_of_mem _ hr)) hrest
        refine ⟨q + q', ?_, ?_⟩
        · rw [List.length_append, hchunk, hout, hpkt, Nat.add_mul]
        · rw [List.append_assoc, hstreamed, ← List.append_assoc, hbytes, List.append_assoc, List.map_cons,
            List.flatten_cons]
      rw [deliverAll, hu] at h
      dsimp only at h
      rcases hends with hover | ⟨hpending, hdelivers⟩ | ⟨hok, hdelivers⟩
      · rw [if_neg (by rw [hover]; decide), if_neg (by rw [hover]; decide)] at h
        cases h
      · rw [if_neg (by rw [hpending]; decide), if_pos hpending] at h
        exact htail hdelivers h
      · rw [if_pos hok] at h
        obtain ⟨⟨t', out'⟩, hrest, hpair⟩ := Option.map_eq_some_iff.mp h
        obtain ⟨rfl, rfl⟩ := Prod.mk.inj hpair
        exact htail hdelivers hrest

/-- Settles O48: from an empty RBUF, what was held before is nothing. -/
theorem reassemblyKeepsTheByteStream : Obligations.ReassemblyKeepsTheByteStream := by
  intro s t reads out hs hstream hatr hempty hm h
  have hstreamed := deliverAll_stream reads hs hstream hatr hm h
  rwa [hempty, List.nil_append] at hstreamed

end Sys2Proof.Machine

/-! ## Binary64 arithmetic, correctly rounded (`41_calibration.md` R150, R151) -/

namespace Sys2Proof.Machine

/-! ### Encodings and their values -/

theorem sign_eq_decide (u : F64) : u.getLsbD 63 = decide (2 ^ 63 ≤ u.toNat) := BitVec.msb_eq_decide u

/-- An encoding is its sign and its magnitude bits. -/
theorem packSign_sign_magnitude (u : F64) : packSign (u.getLsbD 63) (magnitude u) = u := by
  have hu := u.isLt
  refine BitVec.eq_of_toNat_eq ?_
  rw [packSign, BitVec.toNat_ofNat, sign_eq_decide, magnitude]
  by_cases h : 2 ^ 63 ≤ u.toNat
  · rw [decide_eq_true h, if_pos rfl]
    omega
  · rw [decide_eq_false h, if_neg (by decide)]
    omega

theorem toNat_packSign (neg : Bool) {mag : Nat} (h : mag < 2 ^ 63) :
    (packSign neg mag).toNat = (if neg then 2 ^ 63 else 0) + mag := by
  rw [packSign, BitVec.toNat_ofNat, Nat.mod_eq_of_lt]
  split <;> omega

theorem sign_packSign (neg : Bool) {mag : Nat} (h : mag < 2 ^ 63) : (packSign neg mag).getLsbD 63 = neg := by
  rw [sign_eq_decide, toNat_packSign neg h]
  cases neg
  · exact decide_eq_false (by simp only [Bool.false_eq_true, if_false]; omega)
  · exact decide_eq_true (by simp only [if_true]; omega)

/-- The last bit of an encoding is that of its magnitude bits. -/
theorem lastBit_packSign (neg : Bool) {mag : Nat} (h : mag < 2 ^ 63) (heven : mag % 2 = 0) :
    (packSign neg mag).getLsbD 0 = false := by
  rw [← BitVec.testBit_toNat, Nat.testBit_zero, toNat_packSign neg h]
  cases neg
  · exact decide_eq_false (by simp only [Bool.false_eq_true, if_false]; omega)
  · exact decide_eq_false (by simp only [if_true]; omega)

/-- The fields of an encoding. -/
theorem fields_packSign (neg : Bool) {ex fr : Nat} (hex : ex < 2048) (hfr : fr < 2 ^ 52) :
    (packSign neg (ex * 2 ^ 52 + fr)).toNat / 2 ^ 52 % 2 ^ 11 = ex ∧
    (packSign neg (ex * 2 ^ 52 + fr)).toNat % 2 ^ 52 = fr := by
  rw [toNat_packSign neg (by omega)]
  cases neg <;> simp only [Bool.false_eq_true, if_false, if_true] <;> omega

theorem unpack_packSign_subnormal (neg : Bool) {fr : Nat} (hfr : fr < 2 ^ 52) :
    unpack (packSign neg fr) = .fin neg fr (-1074) := by
  obtain ⟨hex', hfr'⟩ := fields_packSign neg (ex := 0) (by decide) hfr
  rw [Nat.zero_mul, Nat.zero_add] at hex' hfr'
  simp only [unpack, hex', hfr', sign_packSign neg (by omega : fr < 2 ^ 63)]
  rfl

theorem unpack_packSign_normal (neg : Bool) {ex fr : Nat} (hpos : 1 ≤ ex) (hex : ex < 2047) (hfr : fr < 2 ^ 52) :
    unpack (packSign neg (ex * 2 ^ 52 + fr)) = .fin neg (2 ^ 52 + fr) (ex - 1075) := by
  obtain ⟨hex', hfr'⟩ := fields_packSign neg (by omega : ex < 2048) hfr
  simp only [unpack, hex', hfr', sign_packSign neg (by omega : ex * 2 ^ 52 + fr < 2 ^ 63)]
  rw [if_neg (by omega), if_neg (by omega)]
  rfl

theorem unpack_packSign_inf (neg : Bool) : unpack (packSign neg infMag) = .inf neg := by
  cases neg <;> decide

/-- The sign of a value is the sign bit. -/
theorem sign_of_unpack_fin {u : F64} {n : Bool} {m : Nat} {e : Int} (h : unpack u = .fin n m e) :
    u.getLsbD 63 = n := by
  unfold unpack at h
  dsimp only at h
  split_ifs at h <;> cases h <;> rfl

/-- A finite encoding has at most 53 significant bits, and no place below 2^-1074. -/
theorem unpack_fin_bounds {u : F64} {n : Bool} {m : Nat} {e : Int} (h : unpack u = .fin n m e) :
    m < 2 ^ 53 ∧ -1074 ≤ e := by
  have hfr : u.toNat % 2 ^ 52 < 2 ^ 52 := Nat.mod_lt _ (by decide)
  unfold unpack at h
  dsimp only at h
  split_ifs at h with hinf hfrac hsub
  · cases h
    exact ⟨by omega, le_rfl⟩
  · obtain ⟨-, rfl, rfl⟩ := FloatVal.fin.inj h
    refine ⟨by omega, ?_⟩
    rw [Int.ofNat_eq_natCast]
    omega

/-! ### The value of a sign, a magnitude and an exponent -/

/-- The factor of a sign. -/
def signRat (neg : Bool) : ℚ := if neg then -1 else 1

theorem finRat_eq (neg : Bool) (m : Nat) (e : Int) : finRat neg m e = signRat neg * (m * 2 ^ e) := by
  rw [finRat, signRat, mul_assoc]

theorem signRat_mul_self (neg : Bool) : signRat neg * signRat neg = 1 := by
  cases neg <;> norm_num [signRat]

theorem abs_signRat_mul (neg : Bool) (q : ℚ) : |signRat neg * q| = |q| := by
  cases neg <;> simp [signRat]

theorem abs_finRat (neg : Bool) (m : Nat) (e : Int) : |finRat neg m e| = m * 2 ^ e := by
  rw [finRat_eq, abs_signRat_mul, abs_of_nonneg (by positivity)]

theorem finRat_neg_iff {neg : Bool} {m : Nat} {e : Int} (hm : 0 < m) : finRat neg m e < 0 ↔ neg = true := by
  have hpos : (0 : ℚ) < m * 2 ^ e := by positivity
  rw [finRat_eq]
  cases neg
  · simp only [signRat, Bool.false_eq_true, if_false, iff_false, one_mul]
    exact hpos.not_gt
  · simp only [signRat, if_true, iff_true, neg_one_mul]
    exact neg_neg_of_pos hpos

/-- A carry out of the 53 bits moves into the exponent. -/
theorem finRat_carry (neg : Bool) (q : Int) : finRat neg (2 ^ 52) (q + 1) = finRat neg (2 ^ 53) q := by
  rw [finRat_eq, finRat_eq, zpow_add_one₀ two_ne_zero]
  push_cast
  ring

/-- The encoding that the rounding writes for `M` last places of `2^q` has that value. -/
theorem floatRat_packSign_places (neg : Bool) {q : Int} {M : Nat} (hq : -1074 ≤ q) (hM : M ≤ 2 ^ 53)
    (hnorm : q = -1074 ∨ 2 ^ 52 ≤ M) (hfin : (q + 1074).toNat * 2 ^ 52 + M < infMag) :
    floatRat (packSign neg ((q + 1074).toNat * 2 ^ 52 + M)) = some (finRat neg M q) := by
  unfold infMag at hfin
  rcases Nat.lt_or_ge M (2 ^ 52) with hsub | hnormal
  · obtain rfl : q = -1074 := hnorm.resolve_right (by omega)
    have hmag : ((-1074 : Int) + 1074).toNat * 2 ^ 52 + M = M := by norm_num
    rw [hmag, floatRat, unpack_packSign_subnormal neg hsub]
  · rcases Nat.lt_or_ge M (2 ^ 53) with hlt | hcarry
    · have hmag : (q + 1074).toNat * 2 ^ 52 + M = ((q + 1074).toNat + 1) * 2 ^ 52 + (M - 2 ^ 52) := by omega
      have hM' : 2 ^ 52 + (M - 2 ^ 52) = M := by omega
      have hexp : (((q + 1074).toNat + 1 : Nat) : Int) - 1075 = q := by omega
      rw [hmag, floatRat, unpack_packSign_normal neg (by omega) (by omega) (by omega), hM', hexp]
    · obtain rfl : M = 2 ^ 53 := by omega
      have hmag : (q + 1074).toNat * 2 ^ 52 + 2 ^ 53 = ((q + 1074).toNat + 2) * 2 ^ 52 + 0 := by omega
      have hexp : (((q + 1074).toNat + 2 : Nat) : Int) - 1075 = q + 1 := by omega
      rw [hmag, floatRat, unpack_packSign_normal neg (by omega) (by omega) (by omega), hexp, Nat.add_zero,
        ← finRat_carry]

/-- Every finite binary64 is a whole number of places `2^q`, or smaller than 2^52 of them. -/
theorem floatRat_on_grid {c : F64} {w : ℚ} (h : floatRat c = some w) (q : Int) :
    (∃ k : ℤ, w = k * 2 ^ q) ∨ (-1074 < q ∧ |w| < 2 ^ 52 * 2 ^ q) := by
  obtain ⟨n, m, e, hu, rfl⟩ := floatRat_eq_some h
  obtain ⟨hm, he⟩ := unpack_fin_bounds hu
  rcases le_or_gt q e with hle | hlt
  · refine .inl ⟨(if n then -1 else 1) * (m * 2 ^ (e - q).toNat), ?_⟩
    have hexp : (2 : ℚ) ^ e = 2 ^ (e - q).toNat * 2 ^ q := by
      rw [← zpow_natCast, ← zpow_add₀ two_ne_zero, Int.toNat_of_nonneg (by omega), sub_add_cancel]
    rw [finRat, hexp]
    push_cast
    ring
  · refine .inr ⟨by omega, ?_⟩
    rw [abs_finRat]
    have hexp : (2 : ℚ) ^ (e + 1) ≤ 2 ^ q := zpow_le_zpow_right₀ one_le_two hlt
    have hm' : (m : ℚ) < 2 ^ 53 := by exact_mod_cast hm
    calc (m : ℚ) * 2 ^ e < 2 ^ 53 * 2 ^ e := by gcongr
      _ = 2 ^ 52 * 2 ^ (e + 1) := by rw [zpow_add_one₀ two_ne_zero]; ring
      _ ≤ 2 ^ 52 * 2 ^ q := by gcongr

/-! ### Rounding to a whole number of places -/

/-- `M` is the natural number nearest to `y`, the even one of two equally near ones. -/
def NearestEven (y : ℚ) (M : Nat) : Prop := |(M : ℚ) - y| ≤ 1 / 2 ∧ (|(M : ℚ) - y| = 1 / 2 → M % 2 = 0)

theorem nearestEven_self (M : Nat) : NearestEven M M := by
  unfold NearestEven
  rw [sub_self, abs_zero]
  norm_num

/-- The model's shift rounds to nearest, ties to even. -/
theorem roundShift_nearestEven (m k : Nat) : NearestEven (m / 2 ^ k) (roundShift m k) := by
  have hdiv : (m : ℚ) / 2 ^ k = (m / 2 ^ k : ℕ) + (m % 2 ^ k : ℕ) / 2 ^ k := by
    have hsplit : ((2 ^ k * (m / 2 ^ k) + m % 2 ^ k : ℕ) : ℚ) = m := by rw [Nat.div_add_mod]
    rw [← hsplit]
    push_cast
    field_simp
  have hpos : (0 : ℚ) < 2 ^ k := by positivity
  have hrem : m % 2 ^ k < 2 ^ k := Nat.mod_lt _ (Nat.two_pow_pos k)
  have hremQ : ((m % 2 ^ k : ℕ) : ℚ) < 2 ^ k := by exact_mod_cast hrem
  rw [hdiv]
  unfold roundShift NearestEven
  dsimp only
  generalize m / 2 ^ k = Q at *
  generalize m % 2 ^ k = r at *
  have hfrac : (0 : ℚ) ≤ r / 2 ^ k := by positivity
  split
  next hup =>
    have hhalf : (1 : ℚ) / 2 ≤ r / 2 ^ k := by
      have hle : 2 ^ k ≤ 2 * r := by omega
      have hleQ : (2 : ℚ) ^ k ≤ 2 * r := by exact_mod_cast hle
      rw [div_le_div_iff₀ two_pos hpos]
      linarith
    have hone : (r : ℚ) / 2 ^ k ≤ 1 := (div_le_one hpos).mpr hremQ.le
    have habs : |((Q + 1 : ℕ) : ℚ) - (Q + r / 2 ^ k)| = 1 - r / 2 ^ k := by
      rw [abs_of_nonneg] <;> push_cast <;> linarith
    rw [habs]
    refine ⟨by linarith, fun htie => ?_⟩
    have hr : (2 : ℚ) * r = 2 ^ k := by
      have heq : (r : ℚ) / 2 ^ k = 1 / 2 := by linarith
      rw [div_eq_div_iff hpos.ne' two_ne_zero] at heq
      linarith
    have hr' : 2 * r = 2 ^ k := by exact_mod_cast hr
    omega
  next hdown =>
    have hhalf : (r : ℚ) / 2 ^ k ≤ 1 / 2 := by
      have hle : 2 * r ≤ 2 ^ k := by omega
      have hleQ : 2 * (r : ℚ) ≤ 2 ^ k := by exact_mod_cast hle
      rw [div_le_div_iff₀ hpos two_pos]
      linarith
    have habs : |(Q : ℚ) - (Q + r / 2 ^ k)| = r / 2 ^ k := by
      rw [sub_add_cancel_left, abs_neg, abs_of_nonneg hfrac]
    rw [habs]
    refine ⟨hhalf, fun htie => ?_⟩
    have hr : (2 : ℚ) * r = 2 ^ k := by
      rw [div_eq_div_iff hpos.ne' two_ne_zero] at htie
      linarith
    have hr' : 2 * r = 2 ^ k := by exact_mod_cast hr
    omega

/-- No integer is nearer, and one that is as near leaves an even number. -/
theorem NearestEven.le_int {y : ℚ} {M : Nat} (h : NearestEven y M) (k : ℤ) :
    |(M : ℚ) - y| ≤ |(k : ℚ) - y| ∧ (|(M : ℚ) - y| = |(k : ℚ) - y| → (k : ℚ) ≠ M → M % 2 = 0) := by
  obtain ⟨hhalf, heven⟩ := h
  by_cases hk : k = (M : ℤ)
  · subst hk
    exact ⟨by simp, fun _ hne => absurd (by simp) hne⟩
  · have hone : (1 : ℚ) ≤ |(k : ℚ) - M| := by
      have hint : (1 : ℤ) ≤ |k - M| := Int.one_le_abs (sub_ne_zero.mpr hk)
      exact_mod_cast hint
    have htriangle : |(k : ℚ) - M| ≤ |(k : ℚ) - y| + |(M : ℚ) - y| := by
      rw [abs_sub_comm (M : ℚ) y]
      exact abs_sub_le _ _ _
    exact ⟨by linarith, fun htie _ => heven (by linarith)⟩

/-- What is smaller than a whole number below `y` is farther away. -/
theorem NearestEven.lt_of_below {y z : ℚ} {M N : Nat} (h : NearestEven y M) (hy : (N : ℚ) ≤ y) (hz : z < N) :
    |(M : ℚ) - y| < |z - y| := by
  obtain ⟨hle, -⟩ := h.le_int (N : ℤ)
  have hN : |((N : ℤ) : ℚ) - y| = y - N := by
    rw [abs_sub_comm, abs_of_nonneg] <;> push_cast <;> linarith
  have hz' : |z - y| = y - z := by
    rw [abs_sub_comm, abs_of_nonneg (by linarith)]
  linarith

/-- A number in a range of whole numbers rounds into the range. -/
theorem NearestEven.ge_of_ge {y : ℚ} {M N : Nat} (h : NearestEven y M) (hy : (N : ℚ) ≤ y) : N ≤ M := by
  obtain ⟨hhalf, -⟩ := h
  by_contra hlt
  have hle : (M : ℚ) + 1 ≤ N := by exact_mod_cast Nat.lt_of_not_le hlt
  have habs : |(M : ℚ) - y| = y - M := by rw [abs_sub_comm, abs_of_nonneg (by linarith)]
  linarith

theorem NearestEven.le_of_le {y : ℚ} {M N : Nat} (h : NearestEven y M) (hy : y ≤ N) : M ≤ N := by
  obtain ⟨hhalf, -⟩ := h
  by_contra hlt
  have hle : (N : ℚ) + 1 ≤ M := by exact_mod_cast Nat.lt_of_not_le hlt
  have habs : |(M : ℚ) - y| = M - y := by rw [abs_of_nonneg (by linarith)]
  linarith

/-! ### The places that are kept -/

/-- The rounded number of places `2^q` in `m * 2^e`. -/
def roundedPlaces (m : Nat) (e q : Int) : Nat :=
  if q ≤ e then m * 2 ^ (e - q).toNat else roundShift m (q - e).toNat

theorem roundMag_eq (m : Nat) (e : Int) : roundMag m e =
    min ((lastPlace m e + 1074).toNat * 2 ^ 52 + roundedPlaces m e (lastPlace m e)) infMag := rfl

theorem roundedPlaces_nearestEven (m : Nat) (e q : Int) :
    NearestEven (m * 2 ^ (e - q)) (roundedPlaces m e q) := by
  unfold roundedPlaces
  split
  next hle =>
    have hexp : (m : ℚ) * 2 ^ (e - q) = ((m * 2 ^ (e - q).toNat : ℕ) : ℚ) := by
      push_cast
      rw [← zpow_natCast, Int.toNat_of_nonneg (by omega)]
    rw [hexp]
    exact nearestEven_self _
  next hgt =>
    have hexp : (m : ℚ) * 2 ^ (e - q) = m / 2 ^ (q - e).toNat := by
      rw [← zpow_natCast, Int.toNat_of_nonneg (by omega), ← neg_sub q e, zpow_neg, div_eq_mul_inv]
    rw [hexp]
    exact roundShift_nearestEven _ _

/-- The exact value is below 2^53 of the places kept, and at least 2^52 of them where no place is too small. -/
theorem places_bounds {m : Nat} (e : Int) (hm : 0 < m) :
    -1074 ≤ lastPlace m e ∧ (m : ℚ) * 2 ^ (e - lastPlace m e) < 2 ^ 53 ∧
      (lastPlace m e = -1074 ∨ (2 : ℚ) ^ 52 ≤ m * 2 ^ (e - lastPlace m e)) := by
  have hlow : (2 : ℚ) ^ Nat.log2 m ≤ m := by exact_mod_cast Nat.log2_self_le hm.ne'
  have hhigh : (m : ℚ) < 2 ^ (Nat.log2 m + 1) := by exact_mod_cast Nat.lt_log2_self
  have hpos (x : Int) : (0 : ℚ) < 2 ^ x := by positivity
  refine ⟨le_max_right _ _, ?_, ?_⟩
  · have hexp : e - lastPlace m e ≤ 52 - (Nat.log2 m : Int) := by
      have hle : e + (Nat.log2 m : Int) - 52 ≤ lastPlace m e := le_max_left _ _
      omega
    calc (m : ℚ) * 2 ^ (e - lastPlace m e) < 2 ^ (Nat.log2 m + 1) * 2 ^ (e - lastPlace m e) := by
          exact mul_lt_mul_of_pos_right hhigh (hpos _)
      _ ≤ 2 ^ (Nat.log2 m + 1) * 2 ^ (52 - (Nat.log2 m : Int)) :=
          mul_le_mul_of_nonneg_left (zpow_le_zpow_right₀ one_le_two hexp) (by positivity)
      _ = 2 ^ 53 := by
          rw [← zpow_natCast, ← zpow_add₀ two_ne_zero, ← zpow_natCast]
          congr 1
          push_cast
          ring
  · rcases le_or_gt (e + (Nat.log2 m : Int) - 52) (-1074) with hsub | hnormal
    · exact .inl (max_eq_right hsub)
    · refine .inr ?_
      have hq : lastPlace m e = e + (Nat.log2 m : Int) - 52 := max_eq_left hnormal.le
      calc (2 : ℚ) ^ 52 = 2 ^ Nat.log2 m * 2 ^ (52 - (Nat.log2 m : Int)) := by
            rw [← zpow_natCast, ← zpow_natCast, ← zpow_add₀ two_ne_zero]
            congr 1
            push_cast
            ring
        _ ≤ m * 2 ^ (52 - (Nat.log2 m : Int)) := mul_le_mul_of_nonneg_right hlow (hpos _).le
        _ = m * 2 ^ (e - lastPlace m e) := by
            rw [hq]
            congr 2
            ring

/-! ### One rounding (R150) -/

/-- With the last place 2^971 a value rounds up to 2^1024 from half a place below it on. -/
theorem rounded_lt_iff {y : ℚ} {M : Nat} (h : NearestEven y M) (hM : M ≤ 2 ^ 53) : y < 2 ^ 53 - 1 / 2 ↔ M < 2 ^ 53 := by
  obtain ⟨hhalf, heven⟩ := h
  have hM' : (M : ℚ) ≤ 2 ^ 53 := by exact_mod_cast hM
  constructor
  · intro hy
    by_contra hge
    obtain rfl : M = 2 ^ 53 := by omega
    have habs := le_abs_self (((2 ^ 53 : ℕ) : ℚ) - y)
    push_cast at habs hhalf
    linarith
  · intro hlt
    by_contra hy
    have hM1 : (M : ℚ) + 1 ≤ 2 ^ 53 := by exact_mod_cast hlt
    have habs : |(M : ℚ) - y| = y - M := by rw [abs_sub_comm, abs_of_nonneg (by linarith)]
    have hMeq : (M : ℚ) + 1 = 2 ^ 53 := by linarith
    have hMnat : M + 1 = 2 ^ 53 := by exact_mod_cast hMeq
    have := heven (by linarith)
    omega

/-- The powers that the overflow threshold speaks of, in one unit. -/
theorem threshold_units : ∃ u : ℚ, 0 < u ∧ (2 : ℚ) ^ 970 = u ∧ (2 : ℚ) ^ 1024 = 2 ^ 54 * u ∧
    (2 : ℚ) ^ (970 : Int) = u ∧ (2 : ℚ) ^ (971 : Int) = 2 * u ∧ (2 : ℚ) ^ (972 : Int) = 4 * u := by
  have h970 : (2 : ℚ) ^ (970 : Int) = 2 ^ 970 := zpow_ofNat 2 970
  refine ⟨2 ^ 970, by positivity, rfl, by rw [← pow_add], h970, ?_, ?_⟩
  · rw [← h970, mul_comm, ← zpow_add_one₀ two_ne_zero]
    rfl
  · rw [← h970, mul_comm, show (4 : ℚ) = 2 ^ (2 : Int) by norm_num, ← zpow_add₀ two_ne_zero]
    rfl

section
variable {m : Nat} (e : Int) (hm : 0 < m)
include hm

/-- The rounded number of places is at most 2^53, and at least 2^52 where no place is too small. -/
theorem roundedPlaces_bounds : roundedPlaces m e (lastPlace m e) ≤ 2 ^ 53 ∧
    (lastPlace m e = -1074 ∨ 2 ^ 52 ≤ roundedPlaces m e (lastPlace m e)) := by
  have hnearest := roundedPlaces_nearestEven m e (lastPlace m e)
  obtain ⟨-, hhigh, hlow⟩ := places_bounds e hm
  refine ⟨hnearest.le_of_le ?_, hlow.imp_right fun hlow => hnearest.ge_of_ge ?_⟩
  · push_cast
    exact hhigh.le
  · push_cast
    exact hlow

omit hm in
theorem value_eq_places (q : Int) : (m : ℚ) * 2 ^ e = m * 2 ^ (e - q) * 2 ^ q := by
  rw [mul_assoc, ← zpow_add₀ two_ne_zero, sub_add_cancel]

/-- A value below the overflow threshold, and no other, rounds to the bits of a finite encoding. -/
theorem lt_threshold_iff : (m : ℚ) * 2 ^ e < 2 ^ 1024 - 2 ^ 970 ↔
    (lastPlace m e + 1074).toNat * 2 ^ 52 + roundedPlaces m e (lastPlace m e) < infMag := by
  obtain ⟨hq, hhigh, hlow⟩ := places_bounds e hm
  obtain ⟨hM, hM'⟩ := roundedPlaces_bounds e hm
  have hnearest := roundedPlaces_nearestEven m e (lastPlace m e)
  rw [value_eq_places e (lastPlace m e)]
  unfold infMag
  generalize lastPlace m e = q at *
  generalize roundedPlaces m e q = M at *
  generalize (m : ℚ) * 2 ^ (e - q) = y at *
  have hpos : (0 : ℚ) < 2 ^ q := by positivity
  obtain ⟨u, hu, hu970, h1024, h970, h971, h972⟩ := threshold_units
  rw [h1024, hu970]
  rcases lt_trichotomy q 971 with hlt | rfl | hgt
  · refine iff_of_true ?_ (by omega)
    have hexp : (2 : ℚ) ^ q ≤ 2 ^ (970 : Int) := zpow_le_zpow_right₀ one_le_two (by omega)
    calc y * 2 ^ q < 2 ^ 53 * 2 ^ q := mul_lt_mul_of_pos_right hhigh hpos
      _ ≤ 2 ^ 53 * 2 ^ (970 : Int) := mul_le_mul_of_nonneg_left hexp (by positivity)
      _ < 2 ^ 54 * u - u := by rw [h970]; linarith only [hu]
  · have hscaled : 2 ^ 54 * u - u = (2 ^ 53 - 1 / 2) * 2 ^ (971 : Int) := by
      rw [h971]
      ring
    rw [hscaled, mul_lt_mul_iff_left₀ hpos, rounded_lt_iff hnearest hM]
    omega
  · have hlow' : (2 : ℚ) ^ 52 ≤ y := hlow.resolve_left (by omega)
    have hM52 : 2 ^ 52 ≤ M := hM'.resolve_left (by omega)
    refine iff_of_false (not_lt.mpr ?_) (by omega)
    have hexp : (2 : ℚ) ^ (972 : Int) ≤ 2 ^ q := zpow_le_zpow_right₀ one_le_two (by omega)
    calc 2 ^ 54 * u - u ≤ 2 ^ 52 * 2 ^ (972 : Int) := by rw [h972]; linarith only [hu]
      _ ≤ 2 ^ 52 * 2 ^ q := mul_le_mul_of_nonneg_left hexp (by positivity)
      _ ≤ y * 2 ^ q := mul_le_mul_of_nonneg_right hlow' hpos.le

/-- No finite binary64 is nearer than the rounded places, and one as near leaves an even number of them. -/
theorem places_nearest (neg : Bool) {c : F64} {w : ℚ} (hc : floatRat c = some w) :
    |finRat neg (roundedPlaces m e (lastPlace m e)) (lastPlace m e) - finRat neg m e| ≤ |w - finRat neg m e| ∧
    (|finRat neg (roundedPlaces m e (lastPlace m e)) (lastPlace m e) - finRat neg m e| = |w - finRat neg m e| →
      w ≠ finRat neg (roundedPlaces m e (lastPlace m e)) (lastPlace m e) →
      roundedPlaces m e (lastPlace m e) % 2 = 0) := by
  obtain ⟨-, -, hlow⟩ := places_bounds e hm
  have hnearest := roundedPlaces_nearestEven m e (lastPlace m e)
  have hgrid := floatRat_on_grid hc (lastPlace m e)
  simp only [finRat_eq, value_eq_places e (lastPlace m e)]
  generalize lastPlace m e = q at *
  generalize roundedPlaces m e q = M at *
  generalize (m : ℚ) * 2 ^ (e - q) = y at *
  have hpos : (0 : ℚ) < 2 ^ q := by positivity
  obtain ⟨z, rfl⟩ : ∃ z, w = signRat neg * (z * 2 ^ q) :=
    ⟨signRat neg * w / 2 ^ q, by rw [div_mul_cancel₀ _ hpos.ne', ← mul_assoc, signRat_mul_self, one_mul]⟩
  have hdist (a : ℚ) : |signRat neg * (a * 2 ^ q) - signRat neg * (y * 2 ^ q)| = |a - y| * 2 ^ q := by
    rw [← mul_sub, abs_signRat_mul, ← sub_mul, abs_mul, abs_of_pos hpos]
  rw [hdist, hdist, mul_le_mul_iff_left₀ hpos, mul_left_inj' hpos.ne']
  rcases hgrid with ⟨k, hk⟩ | ⟨hq, hsmall⟩
  · obtain ⟨k', rfl⟩ : ∃ k' : ℤ, z = k' := by
      refine ⟨(if neg then -1 else 1) * k, ?_⟩
      have hz : signRat neg * z = k := by
        rw [← mul_assoc] at hk
        exact mul_right_cancel₀ hpos.ne' hk
      push_cast
      rw [← hz, ← mul_assoc]
      cases neg <;> simp [signRat]
    obtain ⟨hle, htie⟩ := hnearest.le_int k'
    refine ⟨hle, fun heq hne => htie heq fun hkM => hne (by rw [hkM])⟩
  · have hz : z < (2 ^ 52 : ℕ) := by
      rw [abs_signRat_mul, abs_mul, abs_of_pos hpos, mul_lt_mul_iff_left₀ hpos] at hsmall
      push_cast
      exact (le_abs_self z).trans_lt hsmall
    have hy : ((2 ^ 52 : ℕ) : ℚ) ≤ y := by
      push_cast
      exact hlow.resolve_left (by omega)
    have hlt := hnearest.lt_of_below hy hz
    exact ⟨hlt.le, fun heq => absurd heq hlt.ne⟩

/-- The model's rounding is the roundTiesToEven of the statements. -/
theorem roundFloat_roundsTo (neg : Bool) : RoundsTo (finRat neg m e) (roundFloat neg m e) := by
  have hmag : roundMag m e < 2 ^ 63 := (min_le_right _ _).trans_lt (by decide)
  have hsign : decide (finRat neg m e < 0) = neg := by
    rw [Bool.eq_iff_iff, decide_eq_true_iff]
    exact finRat_neg_iff hm
  refine ⟨fun _ => by rw [roundFloat, sign_packSign neg hmag, hsign], ?_⟩
  rw [abs_finRat, hsign]
  obtain ⟨hq, -, -⟩ := places_bounds e hm
  obtain ⟨hM, hnorm⟩ := roundedPlaces_bounds e hm
  by_cases hfin : (lastPlace m e + 1074).toNat * 2 ^ 52 + roundedPlaces m e (lastPlace m e) < infMag
  · rw [if_pos ((lt_threshold_iff e hm).mpr hfin)]
    have hbits : roundMag m e = (lastPlace m e + 1074).toNat * 2 ^ 52 + roundedPlaces m e (lastPlace m e) :=
      min_eq_left hfin.le
    refine ⟨_, by rw [roundFloat, hbits]; exact floatRat_packSign_places neg hq hM hnorm hfin, fun c w hc => ?_⟩
    obtain ⟨hle, htie⟩ := places_nearest e hm neg hc
    refine ⟨hle, fun heq hne => lastBit_packSign neg hmag ?_⟩
    have heven := htie heq hne
    omega
  · rw [if_neg (mt (lt_threshold_iff e hm).mp hfin)]
    have hbits : roundMag m e = infMag := min_eq_right (Nat.le_of_not_lt hfin)
    rw [roundFloat, hbits, unpack_packSign_inf]

end

/-! ### Products and sums (R150) -/

theorem floatRat_packSign_zero (neg : Bool) : floatRat (packSign neg 0) = some 0 := by
  rw [floatRat, unpack_packSign_subnormal neg (by decide)]
  exact congrArg some (finRat_eq_zero_iff.mpr rfl)

/-- A zero of either sign is exact. -/
theorem packSign_zero_roundsTo (neg : Bool) : RoundsTo 0 (packSign neg 0) := by
  refine ⟨fun h => absurd rfl h, ?_⟩
  have hthreshold : |(0 : ℚ)| < 2 ^ 1024 - 2 ^ 970 := by
    rw [abs_zero, sub_pos]
    exact pow_lt_pow_right₀ one_lt_two (by decide)
  rw [if_pos hthreshold]
  refine ⟨0, floatRat_packSign_zero neg, fun c w _ => ?_⟩
  simp only [sub_zero, abs_zero]
  exact ⟨abs_nonneg w, fun hzero hne => absurd (abs_eq_zero.mp hzero.symm) hne⟩

theorem signRat_xor (n1 n2 : Bool) : signRat (n1 ^^ n2) = signRat n1 * signRat n2 := by
  cases n1 <;> cases n2 <;> norm_num [signRat]

theorem finRat_mul (n1 n2 : Bool) (m1 m2 : Nat) (e1 e2 : Int) :
    finRat n1 m1 e1 * finRat n2 m2 e2 = finRat (n1 ^^ n2) (m1 * m2) (e1 + e2) := by
  rw [finRat_eq, finRat_eq, finRat_eq, signRat_xor, zpow_add₀ two_ne_zero]
  push_cast
  ring

theorem fmul_fin {a b : F64} {n1 n2 : Bool} {m1 m2 : Nat} {e1 e2 : Int} (ha : unpack a = .fin n1 m1 e1)
    (hb : unpack b = .fin n2 m2 e2) : fmul a b =
      if m1 * m2 = 0 then packSign (n1 ^^ n2) 0 else roundFloat (n1 ^^ n2) (m1 * m2) (e1 + e2) := by
  simp only [fmul, ha, hb]

/-- Settles O31: the exact product is a sign, a natural number and an exponent, and is rounded once. -/
theorem multiplyRoundsToNearestEven : Obligations.MultiplyRoundsToNearestEven := by
  intro a b qa qb ha hb
  obtain ⟨n1, m1, e1, hua, rfl⟩ := floatRat_eq_some ha
  obtain ⟨n2, m2, e2, hub, rfl⟩ := floatRat_eq_some hb
  rw [fmul_fin hua hub, finRat_mul]
  split
  next hzero =>
    rw [finRat_eq_zero_iff.mpr hzero]
    exact packSign_zero_roundsTo _
  next hne => exact roundFloat_roundsTo _ (Nat.pos_of_ne_zero hne) _

theorem signedInt_cast (n : Bool) (m : Nat) : ((signedInt n m : ℤ) : ℚ) = signRat n * m := by
  cases n <;> simp [signedInt, signRat]

/-- The exact sum, in units of the smaller exponent (R150). -/
theorem finRat_add (n1 n2 : Bool) (m1 m2 : Nat) (e1 e2 : Int) :
    finRat n1 m1 e1 + finRat n2 m2 e2 = exactSum n1 m1 e1 n2 m2 e2 * 2 ^ min e1 e2 := by
  have hshift (m : Nat) {e : Int} (he : min e1 e2 ≤ e) :
      ((m * 2 ^ (e - min e1 e2).toNat : ℕ) : ℚ) * 2 ^ min e1 e2 = m * 2 ^ e := by
    push_cast
    rw [← zpow_natCast, Int.toNat_of_nonneg (by omega), mul_assoc, ← zpow_add₀ two_ne_zero, sub_add_cancel]
  rw [exactSum, Int.cast_add, signedInt_cast, signedInt_cast, add_mul, mul_assoc, mul_assoc,
    hshift m1 (min_le_left _ _), hshift m2 (min_le_right _ _), finRat_eq, finRat_eq]

/-- An integer is its sign and its magnitude. -/
theorem finRat_natAbs (t : ℤ) (e : Int) : finRat (decide (t < 0)) t.natAbs e = t * 2 ^ e := by
  rw [finRat_eq, ← mul_assoc]
  congr 1
  rcases lt_or_ge t 0 with hneg | hpos
  · rw [decide_eq_true hneg, Nat.cast_natAbs, abs_of_neg hneg]
    simp [signRat]
  · rw [decide_eq_false (not_lt.mpr hpos), Nat.cast_natAbs, abs_of_nonneg hpos]
    simp [signRat]

theorem fadd_fin {a b : F64} {n1 n2 : Bool} {m1 m2 : Nat} {e1 e2 : Int} (ha : unpack a = .fin n1 m1 e1)
    (hb : unpack b = .fin n2 m2 e2) : fadd a b =
      if exactSum n1 m1 e1 n2 m2 e2 = 0 then packSign (n1 && n2) 0
      else roundFloat (decide (exactSum n1 m1 e1 n2 m2 e2 < 0)) (exactSum n1 m1 e1 n2 m2 e2).natAbs (min e1 e2) := by
  simp only [fadd, ha, hb]

/-- Settles O32: the exact sum is an integer of units of the smaller exponent, and is rounded once. -/
theorem addRoundsToNearestEven : Obligations.AddRoundsToNearestEven := by
  intro a b qa qb ha hb
  obtain ⟨n1, m1, e1, hua, rfl⟩ := floatRat_eq_some ha
  obtain ⟨n2, m2, e2, hub, rfl⟩ := floatRat_eq_some hb
  rw [fadd_fin hua hub, finRat_add]
  split
  next hzero =>
    rw [hzero, Int.cast_zero, zero_mul]
    exact packSign_zero_roundsTo _
  next hne =>
    rw [← finRat_natAbs]
    exact roundFloat_roundsTo _ (Int.natAbs_pos.mpr hne) _

end Sys2Proof.Machine

/-! ## Zeros, infinities, conversions and the DAC (`41_calibration.md` R150, R157, R158) -/

namespace Sys2Proof.Machine

/-! ### Signed zeros (R150) -/

theorem packSign_zero (neg : Bool) : packSign neg 0 = if neg then 0x8000000000000000#64 else 0#64 := by
  cases neg <;> rfl

/-- A value of 0 is a zero: its encoding has no magnitude bit. -/
theorem eq_packSign_zero {u : F64} {n : Bool} {e : Int} (h : unpack u = .fin n 0 e) : u = packSign n 0 := by
  have hsign := sign_of_unpack_fin h
  have hmag : magnitude u = 0 := by
    have hu := u.isLt
    unfold magnitude
    unfold unpack at h
    dsimp only at h
    split_ifs at h with hinf hfrac hsub
    · obtain ⟨-, hfr, -⟩ := FloatVal.fin.inj h
      omega
    · obtain ⟨-, hfr, -⟩ := FloatVal.fin.inj h
      omega
  rw [← packSign_sign_magnitude u, hsign, hmag]

/-- A negative value is at most 0. -/
theorem finRat_true_nonpos (m : Nat) (e : Int) : finRat true m e ≤ 0 := by
  have hnonneg : (0 : ℚ) ≤ m * 2 ^ e := by positivity
  rw [finRat_eq, signRat, if_pos rfl]
  linarith

/-- Two negative addends with the sum 0 are negative zeros, and of no others both signs are negative. -/
theorem both_negative_iff {a b : F64} {n1 n2 : Bool} {m1 m2 : Nat} {e1 e2 : Int} (ha : unpack a = .fin n1 m1 e1)
    (hb : unpack b = .fin n2 m2 e2) (hsum : finRat n1 m1 e1 + finRat n2 m2 e2 = 0) :
    (n1 && n2) = true ↔ a = packSign true 0 ∧ b = packSign true 0 := by
  rw [Bool.and_eq_true]
  constructor
  · rintro ⟨rfl, rfl⟩
    have h1 := finRat_true_nonpos m1 e1
    have h2 := finRat_true_nonpos m2 e2
    obtain rfl : m1 = 0 := finRat_eq_zero_iff.mp (by linarith : finRat true m1 e1 = 0)
    obtain rfl : m2 = 0 := finRat_eq_zero_iff.mp (by linarith : finRat true m2 e2 = 0)
    exact ⟨eq_packSign_zero ha, eq_packSign_zero hb⟩
  · rintro ⟨rfl, rfl⟩
    exact ⟨(sign_of_unpack_fin ha).symm.trans (sign_packSign true (by decide)),
      (sign_of_unpack_fin hb).symm.trans (sign_packSign true (by decide))⟩

/-- Settles O34. -/
theorem zeroResultsHaveIeeeSigns : Obligations.ZeroResultsHaveIeeeSigns := by
  refine ⟨fun a b qa qb ha hb hzero => ?_, fun a b qa qb ha hb hzero => ?_⟩
  · obtain ⟨n1, m1, e1, hua, rfl⟩ := floatRat_eq_some ha
    obtain ⟨n2, m2, e2, hub, rfl⟩ := floatRat_eq_some hb
    rw [finRat_mul] at hzero
    rw [fmul_fin hua hub, if_pos (finRat_eq_zero_iff.mp hzero), packSign_zero, sign_of_unpack_fin hua,
      sign_of_unpack_fin hub]
    cases n1 <;> cases n2 <;> rfl
  · obtain ⟨n1, m1, e1, hua, rfl⟩ := floatRat_eq_some ha
    obtain ⟨n2, m2, e2, hub, rfl⟩ := floatRat_eq_some hb
    have hsum : exactSum n1 m1 e1 n2 m2 e2 = 0 := by
      rw [finRat_add] at hzero
      exact_mod_cast (mul_eq_zero.mp hzero).resolve_right (zpow_ne_zero _ two_ne_zero)
    have hsigns := both_negative_iff hua hub hzero
    rw [packSign_zero, if_pos rfl] at hsigns
    rw [fadd_fin hua hub, if_pos hsum, packSign_zero]
    simp only [hsigns]

/-! ### Infinities (R150, R154) -/

theorem infinity_eq (neg : Bool) : infinity neg = packSign neg infMag := by
  cases neg <;> rfl

theorem unpack_infinity (neg : Bool) : unpack (infinity neg) = .inf neg := by
  rw [infinity_eq, unpack_packSign_inf]

theorem magnitude_infinity : magnitude (infinity false) = infMag := by
  rw [infinity_eq, magnitude_packSign _ (by decide)]

/-- An encoding below the infinities is finite; with a magnitude bit it is not 0. -/
theorem unpack_of_lt_inf {u : F64} (h : magnitude u < infMag) :
    ∃ m e, unpack u = .fin (u.getLsbD 63) m e ∧ (magnitude u ≠ 0 → m ≠ 0) := by
  unfold magnitude infMag at h
  unfold unpack magnitude
  dsimp only
  split_ifs with hex hfr hsub
  · omega
  · omega
  · exact ⟨_, _, rfl, fun hne => by omega⟩
  · exact ⟨_, _, rfl, fun _ => by omega⟩

theorem unpack_of_eq_inf {u : F64} (h : magnitude u = infMag) : unpack u = .inf (u.getLsbD 63) := by
  rw [← packSign_sign_magnitude u, h, unpack_packSign_inf, sign_packSign _ (by decide)]

/-- An infinity times a value that is not 0 (R150). -/
theorem fmul_inf_fin {a b : F64} {n1 n2 : Bool} {m : Nat} {e : Int} (ha : unpack a = .inf n1)
    (hb : unpack b = .fin n2 m e) (hm : m ≠ 0) :
    fmul a b = packSign (n1 ^^ n2) infMag ∧ fmul b a = packSign (n1 ^^ n2) infMag := by
  simp only [fmul, ha, hb, if_neg hm, Bool.xor_comm n2, and_self]

theorem fmul_inf_inf {a b : F64} {n1 n2 : Bool} (ha : unpack a = .inf n1) (hb : unpack b = .inf n2) :
    fmul a b = packSign (n1 ^^ n2) infMag ∧ fmul b a = packSign (n1 ^^ n2) infMag := by
  simp only [fmul, ha, hb, Bool.xor_comm n2, and_self]

theorem fadd_inf_fin {a b : F64} {n1 n2 : Bool} {m : Nat} {e : Int} (ha : unpack a = .inf n1)
    (hb : unpack b = .fin n2 m e) : fadd a b = packSign n1 infMag ∧ fadd b a = packSign n1 infMag := by
  simp only [fadd, ha, hb, and_self]

theorem fadd_inf_inf {a b : F64} {n : Bool} (ha : unpack a = .inf n) (hb : unpack b = .inf n) :
    fadd a b = packSign n infMag := by
  simp only [fadd, ha, hb, if_true]

/-- Settles O60, by what the encodings stand for. -/
theorem infiniteOperandsFollowIeee : Obligations.InfiniteOperandsFollowIeee := by
  intro neg
  have hinf := unpack_infinity neg
  refine ⟨fun b hne hle => ?_, fun b hlt => ?_, ?_⟩
  · rw [infinity_eq (neg ^^ _)]
    rw [magnitude_infinity] at hle
    rcases hle.lt_or_eq with hlt | heq
    · obtain ⟨m, e, hb, hm⟩ := unpack_of_lt_inf hlt
      exact fmul_inf_fin hinf hb (hm hne)
    · exact fmul_inf_inf hinf (unpack_of_eq_inf heq)
  · rw [magnitude_infinity] at hlt
    obtain ⟨m, e, hb, -⟩ := unpack_of_lt_inf hlt
    have hsum := fadd_inf_fin hinf hb
    rwa [← infinity_eq] at hsum
  · exact (fadd_inf_inf hinf hinf).trans (infinity_eq neg).symm

/-! ### Conversion from natural numbers (R10) -/

/-- Below 2^53 no place is dropped: the places kept are not larger than 1. -/
theorem lastPlace_nonpos {n : Nat} (hpos : 0 < n) (h : n < 2 ^ 53) : lastPlace n 0 ≤ 0 := by
  have hlog : Nat.log2 n < 53 := (Nat.log2_lt hpos.ne').mpr h
  exact max_le (by omega) (by decide)

theorem floatRat_cvt_pos {n : Nat} (hpos : 0 < n) (h : n < 2 ^ 53) :
    floatRat (roundFloat false n 0) = some (n : ℚ) := by
  obtain ⟨hq, -, -⟩ := places_bounds 0 hpos
  obtain ⟨hM, hnorm⟩ := roundedPlaces_bounds 0 hpos
  have hle := lastPlace_nonpos hpos h
  have hfin : (lastPlace n 0 + 1074).toNat * 2 ^ 52 + roundedPlaces n 0 (lastPlace n 0) < infMag := by
    unfold infMag
    omega
  have hexact : roundedPlaces n 0 (lastPlace n 0) = n * 2 ^ (0 - lastPlace n 0).toNat := if_pos hle
  have hvalue : finRat false (roundedPlaces n 0 (lastPlace n 0)) (lastPlace n 0) = n := by
    rw [hexact, finRat_eq, signRat, if_neg (by decide), one_mul]
    push_cast
    rw [mul_assoc, ← zpow_natCast, Int.toNat_of_nonneg (by omega), ← zpow_add₀ two_ne_zero, sub_add_cancel, zpow_zero,
      mul_one]
  rw [roundFloat, roundMag_eq, min_eq_left hfin.le, floatRat_packSign_places false hq hM hnorm hfin, hvalue]

/-- Settles O35. -/
theorem conversionFromNaturalsIsExact : Obligations.ConversionFromNaturalsIsExact := by
  intro n hn
  rcases Nat.eq_zero_or_pos n with rfl | hpos
  · exact ⟨by exact_mod_cast floatRat_packSign_zero false, rfl⟩
  · have hcvt : cvt n = roundFloat false n 0 := if_neg hpos.ne'
    have hmag : roundMag n 0 < 2 ^ 63 := (min_le_right _ _).trans_lt (by decide)
    rw [hcvt]
    exact ⟨floatRat_cvt_pos hpos hn, sign_packSign false hmag⟩

/-! ### CV.DAC (R157, R158) -/

/-- The numerator and the denominator of `m * 2^e`. -/
theorem value_eq_div (m : Nat) (e : Int) : (m : ℚ) * 2 ^ e = (m * 2 ^ e.toNat : ℕ) / (2 ^ (-e).toNat : ℕ) := by
  push_cast
  rcases le_or_gt 0 e with hpos | hneg
  · rw [Int.toNat_of_nonpos (by omega : -e ≤ 0), pow_zero, div_one, ← zpow_natCast, Int.toNat_of_nonneg hpos]
  · rw [Int.toNat_of_nonpos hneg.le, pow_zero, mul_one, ← zpow_natCast, Int.toNat_of_nonneg (by omega), zpow_neg,
      div_inv_eq_mul]

/-- What the code and the clamp indicator are for a finite value (R157). -/
def DacClamps (maxc : Nat) (q : ℚ) (r : Nat × Nat) : Prop :=
  (q < 0 → r.1 = 0 ∧ r.2 = 1) ∧ (q = 0 → r.1 = 0 ∧ r.2 = 0) ∧
  (0 < q → q < maxc → (r.1 : Int) = ⌊q⌋ ∧ r.2 = 0) ∧ (q = maxc → r.1 = maxc ∧ r.2 = 0) ∧
  ((maxc : ℚ) < q → r.1 = maxc ∧ r.2 = 2)

/-- The clamp of a positive fraction. -/
theorem dacClamps_div {maxc num den : Nat} (hnum : 0 < num) (hden : 0 < den) :
    DacClamps maxc ((num : ℚ) / den)
      (if maxc * den ≤ num then (maxc, if maxc * den < num then 2 else 0) else (num / den, 0)) := by
  have hdenQ : (0 : ℚ) < den := by exact_mod_cast hden
  have hpos : (0 : ℚ) < num / den := div_pos (by exact_mod_cast hnum) hdenQ
  have hle : (maxc : ℚ) ≤ num / den ↔ maxc * den ≤ num := by
    rw [le_div_iff₀ hdenQ]
    exact_mod_cast Iff.rfl
  have hlt : (maxc : ℚ) < num / den ↔ maxc * den < num := by
    rw [lt_div_iff₀ hdenQ]
    exact_mod_cast Iff.rfl
  refine ⟨fun h => absurd hpos h.not_gt, fun h => absurd h hpos.ne', fun _ h => ?_, fun h => ?_, fun h => ?_⟩
  · rw [if_neg (mt hle.mpr h.not_ge)]
    refine ⟨?_, rfl⟩
    rw [Rat.floor_natCast_div_natCast]
    rfl
  · rw [if_pos (hle.mp h.ge), if_neg (mt hlt.mpr h.not_gt)]
    exact ⟨rfl, rfl⟩
  · rw [if_pos (hle.mp h.le), if_pos (hlt.mp h)]
    exact ⟨rfl, rfl⟩

theorem dacCode_fin {t : F64} {n : Bool} {m : Nat} {e : Int} (bits : Nat) (h : unpack t = .fin n m e) :
    DacClamps (2 ^ bits - 1) (finRat n m e) (dacCode bits t) := by
  have hmax : (0 : ℚ) ≤ ((2 ^ bits - 1 : ℕ) : ℚ) := Nat.cast_nonneg _
  simp only [dacCode, h]
  rcases Nat.eq_zero_or_pos m with rfl | hm
  · rw [if_pos rfl, finRat_eq_zero_iff.mpr rfl]
    refine ⟨fun h => absurd h (lt_irrefl 0), fun _ => ⟨rfl, rfl⟩, fun h => absurd h (lt_irrefl 0), fun h => ⟨?_, rfl⟩,
      fun h => absurd h hmax.not_gt⟩
    exact_mod_cast h
  · rw [if_neg hm.ne']
    cases n with
    | true =>
        have hneg : finRat true m e < 0 := (finRat_neg_iff hm).mpr rfl
        rw [if_pos rfl]
        exact ⟨fun _ => ⟨rfl, rfl⟩, fun h => absurd h hneg.ne, fun h => absurd h hneg.not_gt,
          fun h => absurd (h ▸ hmax) hneg.not_ge, fun h => absurd (hmax.trans_lt h) hneg.not_gt⟩
    | false =>
        rw [if_neg (by decide), finRat_eq, signRat, if_neg (by decide), one_mul, value_eq_div]
        exact dacClamps_div (by positivity) (by positivity)

theorem dacVolts_eq (s : State) : dacVolts s = BitVec.ofNat 64 (s.arg1.toNat * 2 ^ 32 + s.arg0.toNat) := by
  have h0 := s.arg0.isLt
  have h1 := s.arg1.isLt
  refine BitVec.eq_of_toNat_eq ?_
  rw [dacVolts, BitVec.toNat_append, BitVec.toNat_ofNat, ← Nat.shiftLeft_add_eq_or_of_lt h0, Nat.shiftLeft_eq]
  omega

theorem dacCode_nan {t : F64} (bits : Nat) (h : unpack t = .nan) : dacCode bits t = (0, 1) := by
  simp only [dacCode, h]

theorem dacCode_inf {t : F64} {n : Bool} (bits : Nat) (h : unpack t = .inf n) :
    dacCode bits t = if n then (0, 1) else (2 ^ bits - 1, 2) := by
  unfold dacCode
  rw [h]
  cases n <;> rfl

/-- R157 for every voltage: NaN, the infinities, and the finite values by their clamp. -/
theorem dacCode_clamps (bits : Nat) (t : F64) :
    (unpack t = .nan → (dacCode bits t).1 = 0 ∧ (dacCode bits t).2 = 1) ∧
    (unpack t = .inf true → (dacCode bits t).1 = 0 ∧ (dacCode bits t).2 = 1) ∧
    (unpack t = .inf false → (dacCode bits t).1 = 2 ^ bits - 1 ∧ (dacCode bits t).2 = 2) ∧
    ∀ q, floatRat t = some q → DacClamps (2 ^ bits - 1) q (dacCode bits t) := by
  refine ⟨fun h => ?_, fun h => ?_, fun h => ?_, fun q hq => ?_⟩
  · rw [dacCode_nan _ h]
    exact ⟨rfl, rfl⟩
  · rw [dacCode_inf _ h]
    exact ⟨rfl, rfl⟩
  · rw [dacCode_inf _ h]
    exact ⟨rfl, rfl⟩
  · obtain ⟨n, m, e, hu, rfl⟩ := floatRat_eq_some hq
    exact dacCode_fin bits hu

/-- The transformed voltage is the formula's, on the constants that stand in the window. -/
theorem dac_of_window {s : State} {d : Nat} {slope offset : F64} (hd : d < s.cfg.nDac) (hn : s.cfg.nDac ≤ 2)
    (hslope : windowHolds s (0x300 + 16 * d) (leBytes 8 slope.toNat) = true)
    (hoffset : windowHolds s (0x308 + 16 * d) (leBytes 8 offset.toNat) = true) (v : F64) :
    dac s v d = dacCode s.cfg.dacBits (fadd (fmul v slope) offset) := by
  rw [dac, dacSlopeAt, dacOffsetAt, calFloat_of_window (by omega) (by omega) (by omega) hslope,
    calFloat_of_window (by omega) (by omega) (by omega) hoffset]

/-- The conclusion of `execCvDac_cases`, written by the fields that it sets. -/
theorem setRes01_setCode (s : State) (r0 r1 : BitVec 32) :
    (s.setRes01 r0 r1).setCode .ok = { s with code := .ok, res0 := r0, res1 := r1 } := rfl

/-- Settles O30: the code and the clamp are the model's for the value that the transformed voltage is. -/
theorem cvDacClampsAndTruncates : Obligations.CvDacClampsAndTruncates := by
  intro s d
  refine ⟨fun habsent => if_pos habsent, ?_⟩
  intro slope offset hd hn hslope hoffset t maxc
  rcases execCvDac_cases d s with ⟨habsent, -⟩ | ⟨-, he⟩
  · omega
  · rw [dac_of_window hd hn hslope hoffset, dacVolts_eq, setRes01_setCode] at he
    exact ⟨_, _, he, dacCode_clamps s.cfg.dacBits t⟩

end Sys2Proof.Machine
